-- ==== Sys2Proof/Word.lean ====
section
/-! DEFINITION. The bit-vector types of the block: register words, transfer bytes, and the fields of one
request (spec/00_scope.md R5, R7; spec/30_encoding.md R70, R71). -/

namespace Sys2Proof

/-- A register value, and the value a request carries or returns: 32 bits (00_scope.md R5). -/
abbrev Word := BitVec 32

/-- One byte of an SPI transfer (00_scope.md R5). -/
abbrev Byte := BitVec 8

/-- A byte offset within the register window: 12 bits, since `P_WINDOW` is at most 0x1000 (30_encoding.md R71). -/
abbrev Offset := BitVec 12

/-- The SIZE field of a request, in bytes: 4 bits of the access word (30_encoding.md R71). -/
abbrev SizeField := BitVec 4

/-- The access word AW, the spec's 49-bit notation of one request (30_encoding.md R71). -/
abbrev AccessWord := BitVec 49

end Sys2Proof
end

