-- ==== Sys2Proof/Config.lean ====
section
/-! DEFINITION. What the spec leaves open and an implementation or the environment fixes: the rows marked OPEN of
spec/00_scope.md R5. Each is an uninterpreted constant, so no proof can lean on a value of it. -/

namespace Sys2Proof

/-- The two readings of what reset leaves in the raw `cs_control` (00_scope.md R5, 92_eei_decisions.md D10). -/
inductive ResetCsctrl where
  /-- Reset writes 0x00000000 to the raw `cs_control`. -/
  | zero
  /-- Reset leaves the raw `cs_control` as it was. -/
  | retain
deriving DecidableEq, Repr, Inhabited

/-- `P_BASE`: platform address of the register window (00_scope.md R5, D5). -/
opaque Config.pBase : Nat

/-- How far `P_WINDOW` exceeds its least value 0x14; the type holds the bounds of 00_scope.md R5. -/
opaque Config.pWindowExcess : Fin 0xFED

/-- `P_WINDOW`: size of the register window in bytes, from 0x14 to 0x1000 (00_scope.md R5, D4). -/
def Config.pWindow : Nat := 0x14 + Config.pWindowExcess.val

/-- `P_IRQ`: the platform line the interrupt output is wired to (00_scope.md R5, D6; 60_exceptions.md R148). -/
opaque Config.pIrq : Nat

/-- `P_RESET_CSCTRL`: what reset leaves in the raw `cs_control` (00_scope.md R5, D10). -/
opaque Config.pResetCsctrl : ResetCsctrl

/-- `XCHG`: the bus transport's answer to exchange number n of a run, a free byte for each n, which depends on
neither the byte sent nor earlier answers (42_transfer.md R117, D13). Free value: see log entry 3. -/
opaque Config.xchg : Nat → Byte

end Sys2Proof
end

