-- ==== Sys2Proof/Machine/Port.lean ====
section
/-! DEFINITION. What arrives at the block from outside: a register-access request and its access word
(spec/30_encoding.md R70, R71), a platform access before it is routed (spec/20_memory.md R50), and the events the
requester and the host may present (spec/60_exceptions.md R158). -/

namespace Sys2Proof

/-- DIR of a request, also the direction of a diagnostic report (30_encoding.md R70, 60_exceptions.md R156). -/
inductive Dir where
  /-- `MemRead`, DIR = 0. -/
  | read
  /-- `MemWrite`, DIR = 1. -/
  | write
deriving DecidableEq, Repr

/-- One register-access request at the block's port: the four fields of 30_encoding.md R70. -/
structure Request where
  /-- Read or write. -/
  dir : Dir
  /-- Access width in bytes. -/
  size : SizeField
  /-- Byte offset within the window. -/
  off : Offset
  /-- The written value; ignored in a read. -/
  wdata : Word
deriving DecidableEq, Repr

/-- One access of the platform, before the dispatcher has turned its address into an offset (20_memory.md R50). -/
structure PlatformAccess where
  /-- Read or write. -/
  dir : Dir
  /-- Access width in bytes. -/
  size : SizeField
  /-- Platform address. -/
  addr : Nat
  /-- The written value; ignored in a read. -/
  wdata : Word
deriving DecidableEq, Repr

/-- What the requester or the host may present to the block (60_exceptions.md R158, 00_scope.md R9). -/
inductive PortEvent where
  /-- A request at the register port; its offset is already routed. -/
  | access (r : Request)
  /-- An access at a platform address, still to be routed (20_memory.md R50). -/
  | platform (p : PlatformAccess)
  /-- The reset input (70_reset_and_hazards.md R160, R164). -/
  | reset
  /-- An instruction fetch from the window (20_memory.md R67). -/
  | codeFetch (off : Offset)
  /-- A restore of a saved snapshot (60_exceptions.md R158(e)). -/
  | restore
deriving DecidableEq, Repr

/-- One report to the diagnostic sink: direction and offset (60_exceptions.md R156). -/
structure DiagReport where
  /-- Direction of the access. -/
  dir : Dir
  /-- Offset of the access. -/
  off : Offset
deriving DecidableEq, Repr

/-- DIR as bit 48 of the access word (30_encoding.md R71). -/
def Dir.bit : Dir → Bool
  | .read => false
  | .write => true

/-- The direction that a DIR bit stands for (30_encoding.md R70). -/
def Dir.ofBit : Bool → Dir
  | false => .read
  | true => .write

/-- The request an access word stands for: DIR = AW[48], SIZE = AW[47:44], OFF = AW[43:32], WDATA = AW[31:0]
(30_encoding.md R71). -/
def Request.ofAw (w : AccessWord) : Request where
  dir := Dir.ofBit (w.getLsbD 48)
  size := w.extractLsb' 44 4
  off := w.extractLsb' 32 12
  wdata := w.extractLsb' 0 32

/-- The access word of a request, `D_S_OOO_WWWWWWWW` (30_encoding.md R71). -/
def Request.toAw (r : Request) : AccessWord :=
  BitVec.ofBool r.dir.bit ++ r.size ++ r.off ++ r.wdata

end Sys2Proof
end

