-- ==== Sys2Proof/Syntax.lean ====
section
/-! DEFINITION. The operations of the block, one constructor per row of spec/opcode_table.json
(spec/30_encoding.md R86). -/

namespace Sys2Proof

/-- One operation. Reads carry no operand (their WDATA is ignored, D27); `v` is WDATA, `off` is OFF. -/
inductive Instr where
  /-- RD_CR1 (40_register_read.md R90). -/
  | rdCr1
  /-- RD_CR2 (40_register_read.md R91). -/
  | rdCr2
  /-- RD_SR (40_register_read.md R92). -/
  | rdSr
  /-- RD_DR (40_register_read.md R93). -/
  | rdDr
  /-- RD_CSCR (40_register_read.md R94). -/
  | rdCscr
  /-- RD_INVALID at an offset that selects no register (40_register_read.md R95). -/
  | rdInvalid (off : Offset)
  /-- WR_CR1 (41_register_write.md R100). -/
  | wrCr1 (v : Word)
  /-- WR_CR2 (41_register_write.md R101). -/
  | wrCr2 (v : Word)
  /-- WR_SR (41_register_write.md R102). -/
  | wrSr (v : Word)
  /-- WR_DR (41_register_write.md R103). -/
  | wrDr (v : Word)
  /-- WR_CSCR (41_register_write.md R104). -/
  | wrCscr (v : Word)
  /-- WR_INVALID at an offset that selects no register (41_register_write.md R105). -/
  | wrInvalid (off : Offset) (v : Word)
  /-- RESET, the host's input (70_reset_and_hazards.md R160). -/
  | reset
deriving DecidableEq, Repr

end Sys2Proof
end

