-- ==== Sys2Proof/Machine/State.lean ====
section
/-! DEFINITION. The state of one controller (spec/10_state.md R20), what stands at its interfaces
(spec/60_exceptions.md R158), the reasons a step can stop, and the state after reset
(spec/70_reset_and_hazards.md R161). -/

namespace Sys2Proof.Machine

/-- The five flags of the Status Register (10_state.md R20, R24). -/
structure Status where
  /-- Bit 0, "receive not empty" (R26). -/
  rxne : Bool
  /-- Bit 1, "transmit empty" (R27). -/
  txe : Bool
  /-- Bit 2, underrun, which nothing sets (R28). -/
  udr : Bool
  /-- Bit 3, overrun (R29). -/
  ovr : Bool
  /-- Bit 7, busy (R30). -/
  bsy : Bool
deriving DecidableEq, Repr

/-- The state tuple S of one controller instance, exactly the elements of 10_state.md R20. -/
structure Block where
  /-- Raw Control Register 1 (R21). -/
  control1 : Word
  /-- Decoded EN of the last CR1 write (R22). -/
  spiEnabled : Bool
  /-- Decoded MSTR of the last CR1 write (R22). -/
  masterMode : Bool
  /-- Raw Control Register 2 (R23). -/
  control2 : Word
  /-- Status Register (R24). -/
  status : Status
  /-- Byte queued for transmission; no read returns it (R32). -/
  dataOut : Byte
  /-- Last byte received (R33). -/
  dataIn : Byte
  /-- Raw Chip-Select Control Register (R34). -/
  csControl : Word
  /-- Decoded CS0_EN (R35). -/
  cs0Enabled : Bool
  /-- Decoded CS1_EN (R35). -/
  cs1Enabled : Bool
  /-- Decoded CS0_ACT (R35). -/
  cs0Active : Bool
  /-- Decoded CS1_ACT (R35). -/
  cs1Active : Bool
  /-- Physical level of chip-select line 0: true is level 1, deasserted (R36, 43_outputs.md R126). -/
  csN0 : Bool
  /-- Physical level of chip-select line 1: true is level 1, deasserted (R36, 43_outputs.md R126). -/
  csN1 : Bool
  /-- Logical level of the interrupt output: true is asserted (R36, 43_outputs.md R130). -/
  irq : Bool
deriving DecidableEq, Repr

/-- The controller and what stands at its interfaces (60_exceptions.md R158). Everything but `block` is the model's
own record of the interfaces, no element of S (log entries 3, 4, 5). -/
structure State where
  /-- The state tuple S (10_state.md R20). -/
  block : Block
  /-- Events presented and not yet served, oldest first (20_memory.md R52, R62). -/
  inbox : List PortEvent
  /-- What the last served event returned to the requester: a read's RDATA, or nothing (20_memory.md R53). -/
  rdata : Option Word
  /-- Reports the diagnostic sink has recorded, oldest first (60_exceptions.md R156). -/
  diag : List DiagReport
  /-- Bytes passed to the bus transport, oldest first (20_memory.md R64). -/
  exchanged : List Byte
  /-- Answers the bus transport is known to give next, oldest first (30_encoding.md R85, "xchg"). -/
  xchgScript : List Byte
  /-- How many exchanges there have been; the index of a free answer (42_transfer.md R117). -/
  xchgCount : Nat
deriving DecidableEq, Repr

/-- Why a step faults: never. "No operation in this model raises a fatal/unrecoverable error"
(60_exceptions.md R140, 30_encoding.md R83), so there is no constructor and nobody raises one. -/
inductive Fault where
deriving DecidableEq, Repr

/-- Why a step gives an event no meaning. -/
inductive Refusal where
  /-- Raised by an arm of `exec` for an instruction without a meaning; no arm raises it now. Safe. -/
  | notModelled (mnemonic : String)
  /-- Raised by fetching a request whose SIZE is not 4 (20_memory.md R54, D2). Safe: toward unprovable. -/
  | unsupportedSize
  /-- Raised by fetching an instruction fetch from the window (20_memory.md R67, D19). Safe: toward unprovable. -/
  | windowNotExecutable
  /-- Raised by fetching a snapshot restore (60_exceptions.md R158(e), D16). Safe: toward unprovable. -/
  | snapshotRestore
deriving DecidableEq, Repr

/-- What taking the next event off the port comes to: nothing to run, an operation to run, or a refusal. -/
inductive Fetched where
  /-- No operation of this block; the state is then `s`. -/
  | idle (s : State)
  /-- The operation `i`, to be run from `s`, the state without the event. -/
  | run (i : Instr) (s : State)
  /-- The event has no meaning in the model. -/
  | refuse (r : Refusal)
deriving DecidableEq, Repr

/-- The controller right after reset (70_reset_and_hazards.md R161). `dataOut`, which reset does not touch, and
`csControl`, which reset does not touch under RETAIN, are 0 here by choice (log entries 1, 2). -/
def Block.reset : Block where
  control1 := 0x00000000#32
  spiEnabled := false
  masterMode := false
  control2 := 0x00000000#32
  status := { rxne := false, txe := true, udr := false, ovr := false, bsy := false }
  dataOut := 0x00#8
  dataIn := 0x00#8
  csControl := 0x00000000#32
  cs0Enabled := false
  cs1Enabled := false
  cs0Active := false
  cs1Active := false
  csN0 := true
  csN1 := true
  irq := false

/-- The machine right after reset, with nothing presented yet and nothing recorded (70_reset_and_hazards.md R161,
R166; log entries 3, 4, 5, 8). -/
def State.reset : State where
  block := Block.reset
  inbox := []
  rdata := none
  diag := []
  exchanged := []
  xchgScript := []
  xchgCount := 0

end Sys2Proof.Machine
end

