-- ==== Sys2Proof/Machine/Operands.lean ====
section
/-! DEFINITION. The operand fields of written values, and the zero extension of a read byte
(spec/30_encoding.md R74 to R77, R79). -/

namespace Sys2Proof.Machine

/-- EN of a CR1 value (30_encoding.md R74). -/
def cr1Enable (v : Word) : Bool := v.getLsbD 6

/-- MSTR of a CR1 value (30_encoding.md R74). -/
def cr1Master (v : Word) : Bool := v.getLsbD 2

/-- TXEIE of a CR2 value (30_encoding.md R75). -/
def cr2TxeIe (v : Word) : Bool := v.getLsbD 7

/-- RXNEIE of a CR2 value (30_encoding.md R75). -/
def cr2RxneIe (v : Word) : Bool := v.getLsbD 6

/-- ERRIE of a CR2 value (30_encoding.md R75). -/
def cr2ErrIe (v : Word) : Bool := v.getLsbD 5

/-- CS0_EN of a CSCR value (30_encoding.md R76). -/
def cscrEnable0 (v : Word) : Bool := v.getLsbD 0

/-- CS1_EN of a CSCR value (30_encoding.md R76). -/
def cscrEnable1 (v : Word) : Bool := v.getLsbD 1

/-- CS0_ACT of a CSCR value (30_encoding.md R76). -/
def cscrActive0 (v : Word) : Bool := v.getLsbD 4

/-- CS1_ACT of a CSCR value (30_encoding.md R76). -/
def cscrActive1 (v : Word) : Bool := v.getLsbD 5

/-- The byte a DR write sends: the low byte of the value (30_encoding.md R77). -/
def drByte (v : Word) : Byte := v.extractLsb' 0 8

/-- The value a DR read returns: the byte, zero-extended (30_encoding.md R79). -/
def drValue (b : Byte) : Word := b.setWidth 32

end Sys2Proof.Machine
end

