-- ==== Sys2Proof/Machine/Flags.lean ====
section
/-! DEFINITION. What the status flags become, the value a status read assembles, and the interrupt encoder's
function (spec/10_state.md R24 to R30, spec/30_encoding.md R78, spec/42_transfer.md R112, spec/43_outputs.md R129). -/

namespace Sys2Proof.Machine

/-- A flag as bit `n` of a word. -/
def flagBit (b : Bool) (n : Nat) : Word := (BitVec.ofBool b).setWidth 32 <<< n

/-- The 32-bit value a read of SR returns (30_encoding.md R78). -/
def Status.value (st : Status) : Word :=
  flagBit st.bsy 7 ||| flagBit st.ovr 3 ||| flagBit st.udr 2 ||| flagBit st.txe 1 ||| flagBit st.rxne 0

/-- Reset leaves TXE only (70_reset_and_hazards.md R160). -/
def Status.txeOnly : Status := { rxne := false, txe := true, udr := false, ovr := false, bsy := false }

/-- Step 1 of a transfer: clear TXE, set BSY (42_transfer.md R112). -/
def Status.startTransfer (st : Status) : Status := { st with txe := false, bsy := true }

/-- Step 3 of a transfer: set OVR if RXNE is set already (42_transfer.md R112, R114). -/
def Status.noteOverrun (st : Status) : Status := if st.rxne then { st with ovr := true } else st

/-- Step 5 of a transfer, the three flags in one assignment (42_transfer.md R112, R115). -/
def Status.endTransfer (st : Status) : Status := { st with rxne := true, txe := true, bsy := false }

/-- A DR read clears RXNE, OVR and UDR (40_register_read.md R93, 90_conflicts.md C1). -/
def Status.acknowledge (st : Status) : Status := { st with rxne := false, ovr := false, udr := false }

/-- The interrupt encoder's function of `control2` and `status` (43_outputs.md R129). -/
def irqFn (cr2 : Word) (st : Status) : Bool :=
  (cr2TxeIe cr2 && st.txe) || (cr2RxneIe cr2 && st.rxne) || (cr2ErrIe cr2 && (st.udr || st.ovr))

end Sys2Proof.Machine
end

