-- ==== Sys2Proof/Machine/Ops.lean ====
section
/-! DEFINITION. The shared operations of the meanings: selection and permission (spec/42_transfer.md R110, R111), the
chip-select and interrupt updates (spec/43_outputs.md R127, R131), the transfer protocol (spec/42_transfer.md R112),
reset (spec/70_reset_and_hazards.md R160), the diagnostic report (spec/60_exceptions.md R156) and how an access ends
(spec/20_memory.md R53). The block takes no exception and returns from none (spec/60_exceptions.md R150): the
interrupt update is all it does towards a processor. -/

namespace Sys2Proof.Machine

/-- Line 0 is selected: enabled and active (42_transfer.md R110). -/
def Block.sel0 (b : Block) : Bool := b.cs0Enabled && b.cs0Active

/-- Line 1 is selected: enabled and active (42_transfer.md R110). -/
def Block.sel1 (b : Block) : Bool := b.cs1Enabled && b.cs1Active

/-- The transfer-permission predicate: enabled, master, exactly one line selected (42_transfer.md R111). -/
def Block.permitted (b : Block) : Bool := b.spiEnabled && b.masterMode && (b.sel0 ^^ b.sel1)

/-- The chip-select mapper drives both active-low lines (43_outputs.md R125, R127). -/
def Block.csUpdate (b : Block) : Block := { b with csN0 := !b.sel0, csN1 := !b.sel1 }

/-- The interrupt encoder drives the interrupt line (43_outputs.md R129, R131). -/
def Block.irqUpdate (b : Block) : Block := { b with irq := irqFn b.control2 b.status }

/-- A CR1 write stores the raw value and decodes two flags (41_register_write.md R100). -/
def Block.storeCr1 (v : Word) (b : Block) : Block :=
  { b with control1 := v, spiEnabled := cr1Enable v, masterMode := cr1Master v }

/-- A CR2 write stores the raw value, undecoded (41_register_write.md R101, 10_state.md R23). -/
def Block.storeCr2 (v : Word) (b : Block) : Block := { b with control2 := v }

/-- A DR write queues the low byte (41_register_write.md R103). -/
def Block.queueByte (v : Word) (b : Block) : Block := { b with dataOut := drByte v }

/-- A DR read clears RXNE, OVR and UDR (40_register_read.md R93). -/
def Block.acknowledge (b : Block) : Block := { b with status := b.status.acknowledge }

/-- A CSCR write stores the raw value and decodes four flags (41_register_write.md R104). -/
def Block.storeCscr (v : Word) (b : Block) : Block :=
  { b with
    csControl := v
    cs0Enabled := cscrEnable0 v
    cs1Enabled := cscrEnable1 v
    cs0Active := cscrActive0 v
    cs1Active := cscrActive1 v }

/-- Reset's assignments, before any output is derived; `p` is `P_RESET_CSCTRL` (70_reset_and_hazards.md R160). -/
def Block.clear (p : ResetCsctrl) (b : Block) : Block :=
  { b with
    control1 := 0x00000000#32
    control2 := 0x00000000#32
    status := Status.txeOnly
    dataIn := 0x00#8
    spiEnabled := false
    masterMode := false
    cs0Enabled := false
    cs1Enabled := false
    cs0Active := false
    cs1Active := false
    csControl := match p with
      | .zero => 0x00000000#32
      | .retain => b.csControl }

/-- Reset: the assignments, then the chip-select update, then the interrupt update (70_reset_and_hazards.md R160,
R162). -/
def Block.resetWith (p : ResetCsctrl) (b : Block) : Block := (b.clear p).csUpdate.irqUpdate

/-- Change the controller and nothing at the interfaces. -/
def State.onBlock (f : Block → Block) (s : State) : State := { s with block := f s.block }

/-- The transport's answer to the next exchange: the scripted one, else a free byte (42_transfer.md R117; log entry 3). -/
def State.answer (s : State) : Byte :=
  match s.xchgScript with
  | b :: _ => b
  | [] => Config.xchg s.xchgCount

/-- Call the bus transport once with the byte in `data_out`; the answer has been taken with `State.answer`
(42_transfer.md R112 step 2, R117). -/
def State.exchange (s : State) : State :=
  { s with
    exchanged := s.exchanged ++ [s.block.dataOut]
    xchgScript := s.xchgScript.tail
    xchgCount := s.xchgCount + 1 }

/-- The controller's part of a transfer, with `rx` the byte that came back: steps 1, 3, 4, 5, 6 of
42_transfer.md R112, in that order. -/
def Block.transfer (rx : Byte) (b : Block) : Block :=
  let b1 := { b with status := b.status.startTransfer }
  let b3 := { b1 with status := b1.status.noteOverrun }
  let b4 := { b3 with dataIn := rx }
  let b5 := { b4 with status := b4.status.endTransfer }
  b5.irqUpdate

/-- The transfer protocol, one atomic step (42_transfer.md R112, R113). -/
def State.transfer (s : State) : State := s.exchange.onBlock (Block.transfer s.answer)

/-- One report to the diagnostic sink (60_exceptions.md R156). -/
def State.report (dir : Dir) (off : Offset) (s : State) : State := { s with diag := s.diag ++ [{ dir := dir, off := off }] }

/-- A read completes and returns its value to the requester (20_memory.md R53). -/
def returnData (v : Word) (s : State) : Host.Outcome State Fault Refusal := .next { s with rdata := some v }

/-- A write, or reset, completes and returns nothing (20_memory.md R53). -/
def complete (s : State) : Host.Outcome State Fault Refusal := .next { s with rdata := none }

/-- The level the block puts on platform interrupt line `n`: its own on `P_IRQ`, none elsewhere
(60_exceptions.md R148; asserted is level 1, 43_outputs.md R130). -/
def State.platformIrq (n : Nat) (s : State) : Option Bool := if n = Config.pIrq then some s.block.irq else none

end Sys2Proof.Machine
end

