-- ==== Sys2Proof/Machine/RegisterRead.lean ====
section
/-! DEFINITION. The register read operations (spec/40_register_read.md). -/

namespace Sys2Proof.Machine

/-- RD_CR1 returns the raw `control1` (40_register_read.md R90). -/
def execRdCr1 (s : State) : Host.Outcome State Fault Refusal := returnData s.block.control1 s

/-- RD_CR2 returns the raw `control2` (40_register_read.md R91). -/
def execRdCr2 (s : State) : Host.Outcome State Fault Refusal := returnData s.block.control2 s

/-- RD_SR returns the assembled flags and clears none (40_register_read.md R92). -/
def execRdSr (s : State) : Host.Outcome State Fault Refusal := returnData s.block.status.value s

/-- RD_DR returns the received byte, clears RXNE, OVR and UDR, and re-derives the interrupt (40_register_read.md R93). -/
def execRdDr (s : State) : Host.Outcome State Fault Refusal :=
  returnData (drValue s.block.dataIn) (s.onBlock fun b => b.acknowledge.irqUpdate)

/-- RD_CSCR returns the raw `cs_control` (40_register_read.md R94). -/
def execRdCscr (s : State) : Host.Outcome State Fault Refusal := returnData s.block.csControl s

/-- RD_INVALID reports the access and returns zero (40_register_read.md R95, 60_exceptions.md R141). -/
def execRdInvalid (off : Offset) (s : State) : Host.Outcome State Fault Refusal :=
  returnData 0x00000000#32 (s.report .read off)

end Sys2Proof.Machine
end

