-- ==== Sys2Proof/Machine/RegisterWrite.lean ====
section
/-! DEFINITION. The register write operations (spec/41_register_write.md). -/

namespace Sys2Proof.Machine

/-- WR_CR1 stores and decodes; no output, no transfer (41_register_write.md R100). -/
def execWrCr1 (v : Word) (s : State) : Host.Outcome State Fault Refusal := complete (s.onBlock (Block.storeCr1 v))

/-- WR_CR2 stores the value verbatim, then re-derives the interrupt (41_register_write.md R101, R107). -/
def execWrCr2 (v : Word) (s : State) : Host.Outcome State Fault Refusal :=
  complete (s.onBlock fun b => (b.storeCr2 v).irqUpdate)

/-- WR_SR does nothing, and reports nothing (41_register_write.md R102). -/
def execWrSr (_v : Word) (s : State) : Host.Outcome State Fault Refusal := complete s

/-- WR_DR stores the low byte and, where permitted, runs a transfer (41_register_write.md R103). -/
def execWrDr (v : Word) (s : State) : Host.Outcome State Fault Refusal :=
  let s1 := s.onBlock (Block.queueByte v)
  complete (if s1.block.permitted then s1.transfer else s1)

/-- WR_CSCR stores and decodes, then re-derives both chip-select lines (41_register_write.md R104, R107). -/
def execWrCscr (v : Word) (s : State) : Host.Outcome State Fault Refusal :=
  complete (s.onBlock fun b => (b.storeCscr v).csUpdate)

/-- WR_INVALID reports the access and discards the value (41_register_write.md R105, 60_exceptions.md R142). -/
def execWrInvalid (off : Offset) (_v : Word) (s : State) : Host.Outcome State Fault Refusal :=
  complete (s.report .write off)

end Sys2Proof.Machine
end

