-- ==== Sys2Proof/Machine/ResetOp.lean ====
section
/-! DEFINITION. The reset operation (spec/70_reset_and_hazards.md R160). -/

namespace Sys2Proof.Machine

/-- RESET, under the open parameter `P_RESET_CSCTRL`; no exchange, no report (70_reset_and_hazards.md R160). -/
def execReset (s : State) : Host.Outcome State Fault Refusal :=
  complete (s.onBlock (Block.resetWith Config.pResetCsctrl))

end Sys2Proof.Machine
end

