-- ==== Sys2Proof/Machine/Dispatch.lean ====
section
/-! DEFINITION. One arm per operation (spec/30_encoding.md R86). -/

namespace Sys2Proof.Machine

def exec (i : Instr) (s : State) : Host.Outcome State Fault Refusal :=
  match i with
  | .rdCr1 => Sys2Proof.Machine.execRdCr1 s
  | .rdCr2 => Sys2Proof.Machine.execRdCr2 s
  | .rdSr => Sys2Proof.Machine.execRdSr s
  | .rdDr => Sys2Proof.Machine.execRdDr s
  | .rdCscr => Sys2Proof.Machine.execRdCscr s
  | .rdInvalid off => Sys2Proof.Machine.execRdInvalid off s
  | .wrCr1 v => Sys2Proof.Machine.execWrCr1 v s
  | .wrCr2 v => Sys2Proof.Machine.execWrCr2 v s
  | .wrSr v => Sys2Proof.Machine.execWrSr v s
  | .wrDr v => Sys2Proof.Machine.execWrDr v s
  | .wrCscr v => Sys2Proof.Machine.execWrCscr v s
  | .wrInvalid off v => Sys2Proof.Machine.execWrInvalid off v s
  | .reset => Sys2Proof.Machine.execReset s

end Sys2Proof.Machine
end

