-- ==== Sys2Proof/Machine/RegMap.lean ====
section
/-! DEFINITION. The register map: which offset selects which register (spec/30_encoding.md R72). -/

namespace Sys2Proof

/-- The five memory-mapped registers (30_encoding.md R72). -/
inductive Reg where
  /-- Control1. -/
  | cr1
  /-- Control2. -/
  | cr2
  /-- Status. -/
  | sr
  /-- Data. -/
  | dr
  /-- ChipSelectControl. -/
  | cscr
deriving DecidableEq, Repr

/-- The offset of a register (30_encoding.md R72). -/
def Reg.offset : Reg → Offset
  | .cr1 => 0x000#12
  | .cr2 => 0x004#12
  | .sr => 0x008#12
  | .dr => 0x00C#12
  | .cscr => 0x010#12

/-- The register an offset selects; every other offset, misaligned ones included, selects none
(30_encoding.md R72, R73; 20_memory.md R55). -/
def regAt (off : Offset) : Option Reg :=
  if off = 0x000#12 then some .cr1
  else if off = 0x004#12 then some .cr2
  else if off = 0x008#12 then some .sr
  else if off = 0x00C#12 then some .dr
  else if off = 0x010#12 then some .cscr
  else none

end Sys2Proof
end

