-- ==== Sys2Proof/WellFormed.lean ====
section
/-! DEFINITION. Which terms of `Instr` are operations of the block (spec/40_register_read.md R95,
spec/41_register_write.md R105: the operand OFF of an invalid-address access is any offset but the five of the map). -/

namespace Sys2Proof

/-- The offset of an invalid-address access selects no register (30_encoding.md R72, R73). -/
def invalidOffset (off : Offset) : Bool := (regAt off).isNone

/-- An operation is well formed when an invalid-address access is at an invalid offset; every other operand takes
every value (30_encoding.md R81, R83). -/
def Instr.wf : Instr → Bool
  | .rdCr1 => true
  | .rdCr2 => true
  | .rdSr => true
  | .rdDr => true
  | .rdCscr => true
  | .rdInvalid off => invalidOffset off
  | .wrCr1 _ => true
  | .wrCr2 _ => true
  | .wrSr _ => true
  | .wrDr _ => true
  | .wrCscr _ => true
  | .wrInvalid off _ => invalidOffset off
  | .reset => true

end Sys2Proof
end

