-- ==== Sys2Proof/Decode.lean ====
section
/-! DEFINITION. Decoding a request, total, with a named refusal; the encoder; the opcode map of the spec as rows
(spec/30_encoding.md R71 to R73, R86). -/

namespace Sys2Proof

/-- Why a request is no operation of the block. -/
inductive DecodeError where
  /-- The SIZE of the request is not 4 (30_encoding.md R73 step 1; 20_memory.md R54). -/
  | unsupportedSize
deriving DecidableEq, Repr

/-- The read operation a register's offset selects, or RD_INVALID (30_encoding.md R72). -/
def readOp (off : Offset) : Option Reg → Instr
  | some .cr1 => .rdCr1
  | some .cr2 => .rdCr2
  | some .sr => .rdSr
  | some .dr => .rdDr
  | some .cscr => .rdCscr
  | none => .rdInvalid off

/-- The write operation a register's offset selects, or WR_INVALID (30_encoding.md R72). -/
def writeOp (off : Offset) (v : Word) : Option Reg → Instr
  | some .cr1 => .wrCr1 v
  | some .cr2 => .wrCr2 v
  | some .sr => .wrSr v
  | some .dr => .wrDr v
  | some .cscr => .wrCscr v
  | none => .wrInvalid off v

/-- The operation a request selects: size first, then the register map by direction (30_encoding.md R73). -/
def decodeRequest (r : Request) : Except DecodeError Instr :=
  if r.size = 4#4 then
    .ok (match r.dir with
      | .read => readOp r.off (regAt r.off)
      | .write => writeOp r.off r.wdata (regAt r.off))
  else .error .unsupportedSize

/-- The operation an access word selects (30_encoding.md R71, R73). -/
def decode (w : AccessWord) : Except DecodeError Instr := decodeRequest (Request.ofAw w)

/-- A 4-byte read of a register; WDATA of a read is written 0 (30_encoding.md R71). -/
def readRequest (off : Offset) : Request := { dir := .read, size := 4#4, off := off, wdata := 0#32 }

/-- A 4-byte write of a register (30_encoding.md R71). -/
def writeRequest (off : Offset) (v : Word) : Request := { dir := .write, size := 4#4, off := off, wdata := v }

/-- The request of an operation, by the DIR and OFF columns of 30_encoding.md R86; RESET is not a request. -/
def encodeRequest : Instr → Option Request
  | .rdCr1 => some (readRequest 0x000#12)
  | .rdCr2 => some (readRequest 0x004#12)
  | .rdSr => some (readRequest 0x008#12)
  | .rdDr => some (readRequest 0x00C#12)
  | .rdCscr => some (readRequest 0x010#12)
  | .rdInvalid off => some (readRequest off)
  | .wrCr1 v => some (writeRequest 0x000#12 v)
  | .wrCr2 v => some (writeRequest 0x004#12 v)
  | .wrSr v => some (writeRequest 0x008#12 v)
  | .wrDr v => some (writeRequest 0x00C#12 v)
  | .wrCscr v => some (writeRequest 0x010#12 v)
  | .wrInvalid off v => some (writeRequest off v)
  | .reset => none

/-- The access word of an operation; RESET has none (30_encoding.md R86, 70_reset_and_hazards.md R160). -/
def encode (i : Instr) : Option AccessWord := (encodeRequest i).map Request.toAw

/-- The port event that makes the block perform an operation: its request, or the reset input. -/
def Instr.event (i : Instr) : PortEvent :=
  match encodeRequest i with
  | some r => .access r
  | none => .reset

/-- The mnemonic of an operation in spec/opcode_table.json. -/
def Instr.mnemonic : Instr → String
  | .rdCr1 => "RD_CR1"
  | .rdCr2 => "RD_CR2"
  | .rdSr => "RD_SR"
  | .rdDr => "RD_DR"
  | .rdCscr => "RD_CSCR"
  | .rdInvalid _ => "RD_INVALID"
  | .wrCr1 _ => "WR_CR1"
  | .wrCr2 _ => "WR_CR2"
  | .wrSr _ => "WR_SR"
  | .wrDr _ => "WR_DR"
  | .wrCscr _ => "WR_CSCR"
  | .wrInvalid _ _ => "WR_INVALID"
  | .reset => "RESET"

/-- One row of the opcode map: a word belongs to it when its bits under `mask` are `pattern` (30_encoding.md R86). -/
structure OpcodeRow where
  /-- The row's mnemonic. -/
  mnemonic : String
  /-- MATCH. -/
  pattern : AccessWord
  /-- MASK. -/
  mask : AccessWord
deriving DecidableEq, Repr

/-- A word's bits under the row's MASK are the row's MATCH. -/
def OpcodeRow.covers (row : OpcodeRow) (w : AccessWord) : Bool := w &&& row.mask == row.pattern

/-- The exact rows of the opcode map (30_encoding.md R86, spec/opcode_table.json). -/
def exactRows : List OpcodeRow :=
  [ ⟨"RD_CR1", 0x0400000000000#49, 0x1FFFF00000000#49⟩,
    ⟨"RD_CR2", 0x0400400000000#49, 0x1FFFF00000000#49⟩,
    ⟨"RD_SR", 0x0400800000000#49, 0x1FFFF00000000#49⟩,
    ⟨"RD_DR", 0x0400C00000000#49, 0x1FFFF00000000#49⟩,
    ⟨"RD_CSCR", 0x0401000000000#49, 0x1FFFF00000000#49⟩,
    ⟨"WR_CR1", 0x1400000000000#49, 0x1FFFF00000000#49⟩,
    ⟨"WR_CR2", 0x1400400000000#49, 0x1FFFF00000000#49⟩,
    ⟨"WR_SR", 0x1400800000000#49, 0x1FFFF00000000#49⟩,
    ⟨"WR_DR", 0x1400C00000000#49, 0x1FFFF00000000#49⟩,
    ⟨"WR_CSCR", 0x1401000000000#49, 0x1FFFF00000000#49⟩ ]

/-- The default rows, which match when no exact row of the same DIR matches (30_encoding.md R86). -/
def defaultRows : List OpcodeRow :=
  [ ⟨"RD_INVALID", 0x0400000000000#49, 0x1F00000000000#49⟩,
    ⟨"WR_INVALID", 0x1400000000000#49, 0x1F00000000000#49⟩ ]

/-- The mnemonic the opcode map gives a word: an exact row, else a default row, else none (30_encoding.md R86). -/
def mappedMnemonic (w : AccessWord) : Option String :=
  ((exactRows ++ defaultRows).find? (fun row => row.covers w)).map OpcodeRow.mnemonic

/-- The access word whose bits are `w`, of which the lowest `nbits` count; none where they reach beyond bit 48. -/
def tableAccessWord (nbits w : Nat) : Option AccessWord :=
  let bits := w % 2 ^ nbits
  if bits < 2 ^ 49 then some (BitVec.ofNat 49 bits) else none

/-- The operation the decoder reads from a word of spec/opcode_table.json. -/
def decodeTableWord (nbits w : Nat) : Option Instr :=
  match tableAccessWord nbits w with
  | none => none
  | some aw =>
    match decode aw with
    | .ok i => some i
    | .error _ => none

end Sys2Proof
end

