-- ==== Sys2Proof/Machine/Fetch.lean ====
section
/-! DEFINITION. Taking the next event off the port: routing a platform address (spec/20_memory.md R50), decoding a
request (spec/30_encoding.md R73), the reset input (spec/70_reset_and_hazards.md R164), and the events the spec has a
model refuse (spec/20_memory.md R54, R67; spec/60_exceptions.md R158(e)). -/

namespace Sys2Proof.Machine

/-- The request a platform access becomes at the block's port, off = address - `P_BASE`; none where the address is
outside the window (20_memory.md R50, D4, D5). -/
def route (p : PlatformAccess) : Option Request :=
  if Config.pBase ≤ p.addr ∧ p.addr < Config.pBase + Config.pWindow then
    some { dir := p.dir, size := p.size, off := BitVec.ofNat 12 (p.addr - Config.pBase), wdata := p.wdata }
  else none

/-- A request at the port: its operation, or the refusal of its size (30_encoding.md R73). -/
def accept (r : Request) (s : State) : Fetched :=
  match decodeRequest r with
  | .ok i => .run i s
  | .error .unsupportedSize => .refuse .unsupportedSize

/-- Serve one event from the state without it. An access outside the window never reaches the block (D4). -/
def serve (e : PortEvent) (s : State) : Fetched :=
  match e with
  | .access r => accept r s
  | .platform p =>
    match route p with
    | some r => accept r s
    | none => .idle { s with rdata := none }
  | .reset => .run .reset s
  | .codeFetch _ => .refuse .windowNotExecutable
  | .restore => .refuse .snapshotRestore

/-- Take the oldest event, in the order the port presents them (20_memory.md R62); with none presented the block
stays as it is (log entry 4). -/
def fetch (s : State) : Fetched :=
  match s.inbox with
  | [] => .idle s
  | e :: rest => serve e { s with inbox := rest }

/-- The state with one more request before all others at the port. -/
def State.present (aw : AccessWord) (s : State) : State := { s with inbox := .access (Request.ofAw aw) :: s.inbox }

end Sys2Proof.Machine
end

