-- ==== Sys2Proof/Machine/Step.lean ====
section
/-! DEFINITION. One step: one event of the port, with all its effects (spec/00_scope.md R9, spec/20_memory.md R52). -/

namespace Sys2Proof.Machine

/-- One atomic step (00_scope.md R9, 20_memory.md R58). -/
def step (s : State) : Host.Outcome State Fault Refusal :=
  match fetch s with
  | .idle t => .next t
  | .run i t => exec i t
  | .refuse r => .refused r

/-- The state with the access word of an opcode-table row presented at the port, before everything else
(log entry 4). -/
def State.withFetchWord (s : State) (nbits w : Nat) : State :=
  match tableAccessWord nbits w with
  | some aw => s.present aw
  | none => s

end Sys2Proof.Machine
end

