-- ==== Sys2Proof/Safety.lean ====
section
/-! DEFINITION. The terms of the claims: the invariant of an observation point (spec/10_state.md R38 to R44), the runs
of the block under any environment (spec/60_exceptions.md R158), the operations performed one after another
(spec/20_memory.md R62), and the events that have a meaning (spec/30_encoding.md R83). -/

namespace Sys2Proof.Machine

/-- The decoded chip-select flags are bits 0, 1, 4, 5 of the raw value (10_state.md R43). -/
structure Block.CsAgrees (b : Block) : Prop where
  enabled0 : b.cs0Enabled = b.csControl.getLsbD 0
  enabled1 : b.cs1Enabled = b.csControl.getLsbD 1
  active0 : b.cs0Active = b.csControl.getLsbD 4
  active1 : b.cs1Active = b.csControl.getLsbD 5

/-- All four decoded chip-select flags are 0, as reset leaves them (10_state.md R35, R43). -/
structure Block.CsCleared (b : Block) : Prop where
  enabled0 : b.cs0Enabled = false
  enabled1 : b.cs1Enabled = false
  active0 : b.cs0Active = false
  active1 : b.cs1Active = false

/-- What holds of a controller at every observation point (10_state.md R38 to R40, R42 to R44; the spec marks these
sentences "[derived]"). -/
structure Block.Inv (b : Block) : Prop where
  /-- R38. -/
  txe : b.status.txe = true
  /-- R38. -/
  bsy : b.status.bsy = false
  /-- R39. -/
  udr : b.status.udr = false
  /-- R40. -/
  ovr : b.status.ovr = true → b.status.rxne = true
  /-- R42. -/
  spiEnabled : b.spiEnabled = b.control1.getLsbD 6
  /-- R42. -/
  masterMode : b.masterMode = b.control1.getLsbD 2
  /-- R43: only after a reset under RETAIN may the flags differ from the raw value, and then they are 0. -/
  csFlags : b.CsAgrees ∨ (Config.pResetCsctrl = .retain ∧ b.CsCleared)
  /-- R44, line 0. -/
  csN0 : b.csN0 = !(b.cs0Enabled && b.cs0Active)
  /-- R44, line 1. -/
  csN1 : b.csN1 = !(b.cs1Enabled && b.cs1Active)
  /-- R44, interrupt line; the encoder's function is that of 43_outputs.md R129. -/
  irq : b.irq = ((b.control2.getLsbD 7 && b.status.txe) || (b.control2.getLsbD 6 && b.status.rxne) ||
    (b.control2.getLsbD 5 && (b.status.udr || b.status.ovr)))

/-- The states of a run from reset under any environment: the requester and the host may present any event at any
time, and the bus transport may settle any answers in advance (00_scope.md R6; 60_exceptions.md R158). -/
inductive Reachable : State → Prop where
  /-- A run starts after reset (70_reset_and_hazards.md R166). -/
  | reset : Reachable State.reset
  /-- One more event is presented, behind those that wait. -/
  | present {s : State} (e : PortEvent) : Reachable s → Reachable { s with inbox := s.inbox ++ [e] }
  /-- The transport settles its next answers. -/
  | answers {s : State} (bytes : List Byte) : Reachable s → Reachable { s with xchgScript := s.xchgScript ++ bytes }
  /-- The block takes a step. -/
  | step {s t : State} : Reachable s → step s = .next t → Reachable t

/-- Operations performed one after another, each from the state the one before left. -/
def execAll : List Instr → State → Host.Outcome State Fault Refusal
  | [], s => .next s
  | i :: is, s =>
    match exec i s with
    | .next t => execAll is t
    | .fault r => .fault r
    | .refused r => .refused r

/-- The byte an operation exchanges: that of a DR write while the transfer is permitted (20_memory.md R64). -/
def exchangedBy (i : Instr) (b : Block) : List Byte :=
  match i with
  | .wrDr v =>
    if b.spiEnabled && b.masterMode && ((b.cs0Enabled && b.cs0Active) ^^ (b.cs1Enabled && b.cs1Active)) then
      [v.extractLsb' 0 8]
    else []
  | _ => []

/-- The bytes of the permitted DR writes among operations performed one after another (20_memory.md R64). -/
def exchangedByAll : List Instr → State → List Byte
  | [], _ => []
  | i :: is, s =>
    match exec i s with
    | .next t => exchangedBy i s.block ++ exchangedByAll is t
    | .fault _ => []
    | .refused _ => []

/-- The events that have a meaning: every request of size 4, reset, and an access that is not the block's
(30_encoding.md R83; 20_memory.md R54, R67; 60_exceptions.md R158). -/
def Served (e : PortEvent) : Prop :=
  match e with
  | .access r => r.size = 4#4
  | .platform p => p.size = 4#4 ∨ p.addr < Config.pBase ∨ Config.pBase + Config.pWindow ≤ p.addr
  | .reset => True
  | .codeFetch _ => False
  | .restore => False

/-- Two states that differ at most in the hidden byte `data_out` (10_state.md R32). -/
def SameButDataOut (s t : State) : Prop :=
  { s with block := { s.block with dataOut := 0#8 } } = { t with block := { t.block with dataOut := 0#8 } }

end Sys2Proof.Machine
end

