-- ==== Sys2Proof/Certificates/Slice0/Obligations.lean ====
section
/-! DEFINITION. The statements for the provers, about the block as spec/ describes it. A record update names every
element that changes; every element it does not name is unchanged, so an equation with one is the operation's frame
too. -/

open Sys2Proof Sys2Proof.Machine

/-! Decoding and encoding -/

/-- Access words written out from the spec's own table decode to the operations it names, and sizes other than 4 are
refused (95_test_vectors.md section 2.1; 30_encoding.md R71 to R73). -/
def Obligations.SpecAccessWordsDecode : Prop :=
  decode 0x0400000000000#49 = .ok .rdCr1 ∧ decode 0x0400400000000#49 = .ok .rdCr2 ∧
  decode 0x0400800000000#49 = .ok .rdSr ∧ decode 0x0400C00000000#49 = .ok .rdDr ∧
  decode 0x0401000000000#49 = .ok .rdCscr ∧ decode 0x0401400000000#49 = .ok (.rdInvalid 0x014) ∧
  decode 0x0400CDEADBEEF#49 = .ok .rdDr ∧ decode 0x1400000000044#49 = .ok (.wrCr1 0x44) ∧
  decode 0x14004000000E0#49 = .ok (.wrCr2 0xE0) ∧ decode 0x14008FFFFFFFF#49 = .ok (.wrSr 0xFFFFFFFF) ∧
  decode 0x1400C000000AB#49 = .ok (.wrDr 0xAB) ∧ decode 0x1401000000011#49 = .ok (.wrCscr 0x11) ∧
  decode 0x1401100000011#49 = .ok (.wrInvalid 0x011 0x11) ∧ decode 0x0100C00000000#49 = .error .unsupportedSize ∧
  decode 0x1800C00000000#49 = .error .unsupportedSize

/-- Encoding loses nothing: the access word of a well-formed operation, with every operand at every value, decodes to
that operation; RESET alone has no access word (30_encoding.md sections 1, 2, 6). -/
def Obligations.DecodeOfEncodeReturnsInstruction : Prop :=
  (∀ i : Instr, i.wf = true → i ≠ .reset → ∃ w, encode i = some w ∧ decode w = .ok i) ∧ encode .reset = none

/-- Decoding loses nothing but what a read ignores: a word that decodes is the word of the operation it decodes to,
but for the WDATA of a read, which is ignored (92_eei_decisions.md D27) and encoded as 0. -/
def Obligations.EncodeOfDecodeReturnsWord : Prop :=
  ∀ (w : AccessWord) (i : Instr), decode w = .ok i →
    i.wf = true ∧ i ≠ .reset ∧ encode i = some (if w.getLsbD 48 then w else w &&& 0x1FFFF00000000#49)

/-- The decoder agrees with the opcode map on every access word: an exact row by MATCH and MASK, else a default row of
the same DIR, else no row and a refusal; RESET has no access word (30_encoding.md R86). -/
def Obligations.DecodeFollowsOpcodeMap : Prop :=
  (∀ w : AccessWord,
    (match decode w with
      | .ok i => some i.mnemonic
      | .error _ => none) = mappedMnemonic w) ∧
  encode .reset = none

/-- The decoder reads DIR, SIZE, OFF and WDATA as numbers at their places in the access word and selects by SIZE, then
OFF, then DIR (30_encoding.md sections 1 and 2; that other sizes are refused is the spec's decision D2). -/
def Obligations.DecodeReadsAccessWordFields : Prop :=
  ∀ n : Nat, n < 2 ^ 49 →
    let dir := n / 2 ^ 48
    let size := n / 2 ^ 44 % 2 ^ 4
    let off := n / 2 ^ 32 % 2 ^ 12
    let v := BitVec.ofNat 32 (n % 2 ^ 32)
    decode (BitVec.ofNat 49 n) =
      if size ≠ 4 then .error .unsupportedSize
      else if off = 0x00 then .ok (if dir = 0 then .rdCr1 else .wrCr1 v)
      else if off = 0x04 then .ok (if dir = 0 then .rdCr2 else .wrCr2 v)
      else if off = 0x08 then .ok (if dir = 0 then .rdSr else .wrSr v)
      else if off = 0x0C then .ok (if dir = 0 then .rdDr else .wrDr v)
      else if off = 0x10 then .ok (if dir = 0 then .rdCscr else .wrCscr v)
      else .ok (if dir = 0 then .rdInvalid (BitVec.ofNat 12 off) else .wrInvalid (BitVec.ofNat 12 off) v)

/-! One step -/

/-- A step takes the oldest event off the port and runs the operation it decodes to, from the state without that
event; the reset input runs RESET; a word of the opcode table placed at the port is run by the next step. -/
def Obligations.StepRunsDecodedOperation : Prop :=
  (∀ (s : State) (r : Request) (rest : List PortEvent) (i : Instr), s.inbox = .access r :: rest →
    decodeRequest r = .ok i → step s = exec i { s with inbox := rest }) ∧
  (∀ (s : State) (rest : List PortEvent), s.inbox = .reset :: rest → step s = exec .reset { s with inbox := rest }) ∧
  (∀ (s : State) (nbits w : Nat) (i : Instr), decodeTableWord nbits w = some i →
    step (s.withFetchWord nbits w) = exec i s)

/-- The step refuses, each under its own name, what the spec decides that a model refuses: a request whose size is not
4 (D2), an instruction fetch from the window (D19), a snapshot restore (D16). -/
def Obligations.StepRefusesByName : Prop :=
  (∀ (s : State) (r : Request) (rest : List PortEvent), s.inbox = .access r :: rest → r.size ≠ 4 →
    step s = .refused .unsupportedSize) ∧
  (∀ (s : State) (o : Offset) (rest : List PortEvent), s.inbox = .codeFetch o :: rest →
    step s = .refused .windowNotExecutable) ∧
  (∀ (s : State) (rest : List PortEvent), s.inbox = .restore :: rest → step s = .refused .snapshotRestore)

/-- With nothing presented at the port a step leaves the state as it is: the model's choice, log entry 4. -/
def Obligations.StepWithNothingPresentedIsIdle : Prop :=
  ∀ s : State, s.inbox = [] → step s = .next s

/-- An access at a platform address inside the window is the request at offset address - P_BASE, which 12 bits hold;
one outside never reaches the block; the window holds the five registers (20_memory.md section 1; D4, D5). -/
def Obligations.PlatformAccessIsRoutedByWindow : Prop :=
  (∀ (s : State) (p : PlatformAccess) (rest : List PortEvent), s.inbox = .platform p :: rest →
    Config.pBase ≤ p.addr → p.addr < Config.pBase + Config.pWindow →
    (BitVec.ofNat 12 (p.addr - Config.pBase)).toNat = p.addr - Config.pBase ∧
    step s = step { s with
      inbox := .access
        { dir := p.dir, size := p.size, off := BitVec.ofNat 12 (p.addr - Config.pBase), wdata := p.wdata } :: rest }) ∧
  (∀ (s : State) (p : PlatformAccess) (rest : List PortEvent), s.inbox = .platform p :: rest →
    (p.addr < Config.pBase ∨ Config.pBase + Config.pWindow ≤ p.addr) →
    step s = .next { s with inbox := rest, rdata := none }) ∧
  0x14 ≤ Config.pWindow ∧ Config.pWindow ≤ 0x1000

/-- Every operation of the block answers a next state, from every state and with every operand, and takes nothing off
the port and puts nothing on it. -/
def Obligations.EveryOperationCompletes : Prop :=
  ∀ (i : Instr) (s : State), ∃ t, exec i s = .next t ∧ t.inbox = s.inbox

/-- A step answers a next state exactly when the event it takes has a meaning: every request of size 4 at every offset
has one (30_encoding.md section 4; the refused events are the spec's decisions D2, D16, D19). That the step answers at
a platform access outside the window, at any size, is the model's choice, log entry 12: the spec says only that such an
access never reaches the block. -/
def Obligations.StepAnswersExactlyServedEvents : Prop :=
  ∀ (s : State) (e : PortEvent) (rest : List PortEvent), s.inbox = e :: rest →
    ((∃ t, step s = .next t) ↔ Served e)

/-- A run over events that all have a meaning never stops, however long (60_exceptions.md section 1). Two of its clauses
are the model's choices: beyond the waiting events the run goes on by the idle step of log entry 4, and an access
outside the window is answered as log entry 12 says. -/
def Obligations.RunOverServedEventsNeverStops : Prop :=
  ∀ (n : Nat) (s : State), (∀ e ∈ s.inbox, Served e) → ∃ t, Host.Core.run core n s = .next t

/-- Requests and resets take effect in the order the port presents them, one after another, each from the state the
one before left, and none sees a later one: what waits behind them changes nothing but the port's own list. -/
def Obligations.RequestsTakeEffectInPortOrder : Prop :=
  (∀ (is : List Instr) (s : State) (later : List PortEvent), (∀ i ∈ is, i.wf = true) →
    Host.Core.run core is.length { s with inbox := is.map Instr.event ++ later } =
      execAll is { s with inbox := later }) ∧
  (∀ (is : List Instr) (s t : State) (later : List PortEvent), execAll is s = .next t →
    execAll is { s with inbox := later } = .next { t with inbox := later })

/-! Register reads -/

/-- RD_CR1 and RD_CR2, whatever the WDATA bits of their word: return all 32 bits of the raw register and change nothing
else; right after reset they return 0 (40_register_read.md R90, R91). -/
def Obligations.ControlReadsReturnRawRegister : Prop :=
  (∀ d : Word, decode (0x04000#17 ++ d) = .ok .rdCr1 ∧ decode (0x04004#17 ++ d) = .ok .rdCr2) ∧
  (∀ s : State, exec .rdCr1 s = .next { s with rdata := some s.block.control1 } ∧
    exec .rdCr2 s = .next { s with rdata := some s.block.control2 }) ∧
  (∀ s t : State, exec .reset s = .next t →
    exec .rdCr1 t = .next { t with rdata := some 0x00000000 } ∧
    exec .rdCr2 t = .next { t with rdata := some 0x00000000 })

/-- RD_CSCR returns all 32 bits of the raw register and changes nothing else; after reset it returns 0 under ZERO and
the value before reset under RETAIN (the open parameter of D10). -/
def Obligations.ChipSelectReadReturnsRawRegister : Prop :=
  (∀ d : Word, decode (0x04010#17 ++ d) = .ok .rdCscr) ∧
  (∀ s : State, exec .rdCscr s = .next { s with rdata := some s.block.csControl }) ∧
  (∀ s t : State, exec .reset s = .next t → exec .rdCscr t = .next { t with
    rdata := some (if Config.pResetCsctrl = .zero then 0x00000000 else s.block.csControl) })

/-- RD_SR returns RXNE, TXE, UDR, OVR, BSY as bits 0, 1, 2, 3, 7 of a word whose other bits are 0, and changes no flag
and nothing else (30_encoding.md R78). -/
def Obligations.StatusReadAssemblesFlags : Prop :=
  (∀ d : Word, decode (0x04008#17 ++ d) = .ok .rdSr) ∧
  ∀ s : State, ∃ v : Word, exec .rdSr s = .next { s with rdata := some v } ∧
    v.getLsbD 0 = s.block.status.rxne ∧ v.getLsbD 1 = s.block.status.txe ∧ v.getLsbD 2 = s.block.status.udr ∧
    v.getLsbD 3 = s.block.status.ovr ∧ v.getLsbD 7 = s.block.status.bsy ∧
    ∀ n : Nat, n ≠ 0 → n ≠ 1 → n ≠ 2 → n ≠ 3 → n ≠ 7 → v.getLsbD n = false

/-- RD_DR returns the received byte zero-extended, clears RXNE, OVR and UDR, and drives the interrupt line with the one
condition that is left, TXEIE and TXE; nothing else changes (40_register_read.md R93; 30_encoding.md R79). -/
def Obligations.DataReadReturnsByteAndAcknowledges : Prop :=
  (∀ d : Word, decode (0x0400C#17 ++ d) = .ok .rdDr) ∧
  ∀ s : State, ∃ v : Word, v.toNat = s.block.dataIn.toNat ∧
    exec .rdDr s = .next { s with
      rdata := some v
      block := { s.block with
        status := { s.block.status with rxne := false, ovr := false, udr := false }
        irq := s.block.control2.getLsbD 7 && s.block.status.txe } }

/-- A 4-byte access at an offset that is none of the five completes: a read returns 0, a write is discarded, and the
diagnostic sink gets one report of direction and offset; nothing else changes (60_exceptions.md R141, R142). -/
def Obligations.InvalidAccessesOnlyReport : Prop :=
  ∀ off : Offset, off ≠ 0x000 → off ≠ 0x004 → off ≠ 0x008 → off ≠ 0x00C → off ≠ 0x010 →
    (∀ d : Word, decode (0x04#5 ++ off ++ d) = .ok (.rdInvalid off) ∧
      decode (0x14#5 ++ off ++ d) = .ok (.wrInvalid off d)) ∧
    (∀ s : State, exec (.rdInvalid off) s =
      .next { s with rdata := some 0x00000000, diag := s.diag ++ [{ dir := .read, off := off }] }) ∧
    (∀ (s : State) (v : Word), exec (.wrInvalid off v) s =
      .next { s with rdata := none, diag := s.diag ++ [{ dir := .write, off := off }] })

/-- Every operation but a DR write and an invalid-address access, done again at once, changes nothing more and returns
the same value: a DR read returns the same byte again, and two resets are one (20_memory.md section 4, a sentence the
spec marks "[derived]"; 70_reset_and_hazards.md section 1). -/
def Obligations.RepeatedOperationChangesNothingMore : Prop :=
  ∀ (i : Instr) (s t : State), (∀ v, i ≠ .wrDr v) → (∀ off, i ≠ .rdInvalid off) → (∀ off v, i ≠ .wrInvalid off v) →
    exec i s = .next t → exec i t = .next t

/-! Register writes -/

/-- WR_CR1 stores the whole value and decodes EN (bit 6) and MSTR (bit 2); no output, no transfer, nothing else
(41_register_write.md R100; 30_encoding.md R74). -/
def Obligations.Control1WriteStoresAndDecodes : Prop :=
  ∀ (v : Word), decode (0x14000#17 ++ v) = .ok (.wrCr1 v) ∧
    ∀ s : State, exec (.wrCr1 v) s = .next { s with
      rdata := none
      block := { s.block with control1 := v, spiEnabled := v.getLsbD 6, masterMode := v.getLsbD 2 } }

/-- WR_CR2 stores the whole value and drives the interrupt line from the new enables and the pending flags; nothing
else (41_register_write.md R101). -/
def Obligations.Control2WriteStoresAndRederives : Prop :=
  ∀ (v : Word), decode (0x14004#17 ++ v) = .ok (.wrCr2 v) ∧
    ∀ s : State, exec (.wrCr2 v) s = .next { s with
      rdata := none
      block := { s.block with
        control2 := v
        irq := (v.getLsbD 7 && s.block.status.txe) || (v.getLsbD 6 && s.block.status.rxne) ||
          (v.getLsbD 5 && (s.block.status.udr || s.block.status.ovr)) } }

/-- WR_SR does nothing to the block and emits no report; that it emits none is the spec's decision D15
(41_register_write.md, WR_SR). -/
def Obligations.StatusWriteIsNoOp : Prop :=
  ∀ (v : Word), decode (0x14008#17 ++ v) = .ok (.wrSr v) ∧
    ∀ s : State, exec (.wrSr v) s = .next { s with rdata := none }

/-- WR_DR stores the low byte. Unless SPI is enabled, in master mode and exactly one chip-select is enabled and active,
that is all. Otherwise it exchanges that byte once, stores the answer (the transport's next settled answer, or the free
byte of this exchange), sets RXNE and TXE, clears BSY, sets OVR if RXNE was set, and drives the interrupt line
(41_register_write.md R103; 42_transfer.md R111, R112; 30_encoding.md R77). That the answer is free is the spec's
decision D13; that it is the head of `xchgScript` or else `Config.xchg` at `xchgCount`, that script and counter then
advance, and that `exchanged` and `rdata` record what crosses the interfaces, is the model's choice, log entries 3, 5. -/
def Obligations.DataWriteStoresByteAndTransfersIfPermitted : Prop :=
  ∀ (v : Word), decode (0x1400C#17 ++ v) = .ok (.wrDr v) ∧
    ∀ s : State,
      let permitted := s.block.spiEnabled && s.block.masterMode &&
        ((s.block.cs0Enabled && s.block.cs0Active) ^^ (s.block.cs1Enabled && s.block.cs1Active))
      let sent : Byte := BitVec.ofNat 8 v.toNat
      let ovr := s.block.status.ovr || s.block.status.rxne
      (permitted = false →
        exec (.wrDr v) s = .next { s with rdata := none, block := { s.block with dataOut := sent } }) ∧
      (permitted = true → ∃ rx : Byte,
        (∀ x xs, s.xchgScript = x :: xs → rx = x) ∧ (s.xchgScript = [] → rx = Config.xchg s.xchgCount) ∧
        exec (.wrDr v) s = .next { s with
          rdata := none
          exchanged := s.exchanged ++ [sent]
          xchgScript := s.xchgScript.tail
          xchgCount := s.xchgCount + 1
          block := { s.block with
            dataOut := sent
            dataIn := rx
            status := { rxne := true, txe := true, udr := s.block.status.udr, ovr := ovr, bsy := false }
            irq := s.block.control2.getLsbD 7 || s.block.control2.getLsbD 6 ||
              (s.block.control2.getLsbD 5 && (s.block.status.udr || ovr)) } })

/-- The status a permitted DR write leaves, by the value SR reads before it: 0x02 gives 0x03, 0x03 and 0x0B give 0x0B
(42_transfer.md section 2, a table the spec marks "[derived]"). -/
def Obligations.TransferNetEffectOnStatusValue : Prop :=
  ∀ (v : Word) (s : State), s.block.permitted = true → ∃ t, exec (.wrDr v) s = .next t ∧
    (s.block.status.value = 0x00000002 → t.block.status.value = 0x00000003) ∧
    (s.block.status.value = 0x00000003 → t.block.status.value = 0x0000000B) ∧
    (s.block.status.value = 0x0000000B → t.block.status.value = 0x0000000B)

/-- Overrun: a permitted DR write while RXNE is set sets OVR and overwrites the unread byte with the answer; OVR then
stays through any operations that are neither a DR read nor a reset, any number of transfers among them, and each of
those two clears it (42_transfer.md R114). -/
def Obligations.OverrunStaysUntilDataReadOrReset : Prop :=
  (∀ (v : Word) (s : State), s.block.permitted = true → s.block.status.rxne = true →
    ∃ t, exec (.wrDr v) s = .next t ∧ t.block.status.ovr = true ∧ t.block.dataIn = s.answer) ∧
  (∀ (is : List Instr) (s : State), (∀ i ∈ is, i ≠ .rdDr ∧ i ≠ .reset) → s.block.status.ovr = true →
    ∃ t, execAll is s = .next t ∧ t.block.status.ovr = true) ∧
  (∀ s : State, ∃ t, exec .rdDr s = .next t ∧ t.block.status.ovr = false) ∧
  (∀ s : State, ∃ t, exec .reset s = .next t ∧ t.block.status.ovr = false)

/-- WR_CSCR stores the whole value, decodes its bits 0, 1, 4, 5 and drives both active-low lines from them; nothing
else, whatever CR1 holds (41_register_write.md R104; 30_encoding.md R76). -/
def Obligations.ChipSelectWriteStoresDecodesAndDrives : Prop :=
  ∀ (v : Word), decode (0x14010#17 ++ v) = .ok (.wrCscr v) ∧
    ∀ s : State, exec (.wrCscr v) s = .next { s with
      rdata := none
      block := { s.block with
        csControl := v
        cs0Enabled := v.getLsbD 0
        cs1Enabled := v.getLsbD 1
        cs0Active := v.getLsbD 4
        cs1Active := v.getLsbD 5
        csN0 := !(v.getLsbD 0 && v.getLsbD 4)
        csN1 := !(v.getLsbD 1 && v.getLsbD 5) } }

/-- Each raw register reads back as the whole value last written; for CR1 and CSCR that all 32 bits are kept is the
spec's decision D9 (10_state.md sections 2, 3, 6). -/
def Obligations.WrittenRegistersReadBack : Prop :=
  ∀ (v : Word) (s : State),
    (∃ t, exec (.wrCr1 v) s = .next t ∧ exec .rdCr1 t = .next { t with rdata := some v }) ∧
    (∃ t, exec (.wrCr2 v) s = .next t ∧ exec .rdCr2 t = .next { t with rdata := some v }) ∧
    (∃ t, exec (.wrCscr v) s = .next t ∧ exec .rdCscr t = .next { t with rdata := some v })

/-! Rules of the whole block, over all operations -/

/-- Each status flag is written by the operations its rule names and by no other: a transfer (the DR write that
exchanges a byte) sets RXNE and TXE, clears BSY, sets OVR if RXNE was set, and passes through TXE = 0 and BSY = 1 in its
first step; a DR read and reset clear RXNE, OVR, UDR; reset sets TXE and clears BSY; nothing ever sets UDR
(10_state.md R26 to R30). -/
def Obligations.StatusFlagsFollowTheirWriters : Prop :=
  (∀ (i : Instr) (s t : State), exec i s = .next t →
    (exchangedBy i s.block ≠ [] →
      t.block.status.rxne = true ∧ t.block.status.txe = true ∧ t.block.status.bsy = false ∧
      t.block.status.udr = s.block.status.udr ∧ t.block.status.ovr = (s.block.status.ovr || s.block.status.rxne)) ∧
    (i = .rdDr →
      t.block.status.rxne = false ∧ t.block.status.ovr = false ∧ t.block.status.udr = false ∧
      t.block.status.txe = s.block.status.txe ∧ t.block.status.bsy = s.block.status.bsy) ∧
    (i = .reset →
      t.block.status.rxne = false ∧ t.block.status.ovr = false ∧ t.block.status.udr = false ∧
      t.block.status.txe = true ∧ t.block.status.bsy = false) ∧
    (exchangedBy i s.block = [] → i ≠ .rdDr → i ≠ .reset → t.block.status = s.block.status) ∧
    (t.block.status.udr = true → s.block.status.udr = true)) ∧
  (∀ st : Status, st.startTransfer.txe = false ∧ st.startTransfer.bsy = true)

/-- The interrupt line gets the encoder's value of the new state at a CR2 write, at the end of a transfer, at a DR read
and at reset, and keeps its level at every other operation, none of which changes CR2 or a status flag
(43_outputs.md R129, R131). -/
def Obligations.InterruptLineIsDrivenAtItsPoints : Prop :=
  ∀ (i : Instr) (s t : State), exec i s = .next t →
    (((∃ v, i = .wrCr2 v) ∨ exchangedBy i s.block ≠ [] ∨ i = .rdDr ∨ i = .reset) →
      t.block.irq = ((t.block.control2.getLsbD 7 && t.block.status.txe) ||
        (t.block.control2.getLsbD 6 && t.block.status.rxne) ||
        (t.block.control2.getLsbD 5 && (t.block.status.udr || t.block.status.ovr)))) ∧
    ((∀ v, i ≠ .wrCr2 v) → exchangedBy i s.block = [] → i ≠ .rdDr → i ≠ .reset →
      t.block.irq = s.block.irq ∧ t.block.control2 = s.block.control2 ∧ t.block.status = s.block.status)

/-- Both chip-select lines get the mapper's levels of the new flags, active-low, at a CSCR write and at reset, and keep
their levels at every other operation, none of which changes a chip-select flag (43_outputs.md R125 to R127). -/
def Obligations.ChipSelectLinesAreDrivenAtTheirPoints : Prop :=
  ∀ (i : Instr) (s t : State), exec i s = .next t →
    (((∃ v, i = .wrCscr v) ∨ i = .reset) →
      t.block.csN0 = !(t.block.cs0Enabled && t.block.cs0Active) ∧
      t.block.csN1 = !(t.block.cs1Enabled && t.block.cs1Active)) ∧
    ((∀ v, i ≠ .wrCscr v) → i ≠ .reset →
      t.block.csN0 = s.block.csN0 ∧ t.block.csN1 = s.block.csN1 ∧
      t.block.cs0Enabled = s.block.cs0Enabled ∧ t.block.cs1Enabled = s.block.cs1Enabled ∧
      t.block.cs0Active = s.block.cs0Active ∧ t.block.cs1Active = s.block.cs1Active)

/-- A DR write while the transfer is permitted exchanges exactly its own low byte, every other operation exchanges none;
so the bytes exchanged by operations one after another are those of the permitted DR writes, in order, and a DR write
made while not permitted is not sent later (20_memory.md R64; 42_transfer.md R119). -/
def Obligations.ExchangesAreThePermittedDataWrites : Prop :=
  (∀ (i : Instr) (s : State), ∃ t, exec i s = .next t ∧ t.exchanged = s.exchanged ++ exchangedBy i s.block) ∧
  (∀ (is : List Instr) (s : State), ∃ t, execAll is s = .next t ∧
    t.exchanged = s.exchanged ++ exchangedByAll is s)

/-- The diagnostic sink gets exactly one report, of direction and offset, from an invalid-address access and none from
any other operation (60_exceptions.md section 4; the report's content is the spec's decision D14). -/
def Obligations.ReportsAreTheInvalidAccesses : Prop :=
  ∀ (i : Instr) (s t : State), exec i s = .next t →
    (∀ off, i = .rdInvalid off → t.diag = s.diag ++ [{ dir := .read, off := off }]) ∧
    (∀ off v, i = .wrInvalid off v → t.diag = s.diag ++ [{ dir := .write, off := off }]) ∧
    ((∀ off, i ≠ .rdInvalid off) → (∀ off v, i ≠ .wrInvalid off v) → t.diag = s.diag)

/-- The raw registers, their decoded flags and the two data bytes are written only by the operations named: CR1 and its
two flags by WR_CR1, CR2 by WR_CR2, data_out by WR_DR, data_in by a transfer, CSCR and its four flags by WR_CSCR, and
all of these but data_out by RESET; a read returns a value and a write or reset none (40_register_read.md and
41_register_write.md, sentences the spec marks "[derived]"; that reset leaves data_out alone is its decision D11). -/
def Obligations.OnlyNamedOperationsWriteAnElement : Prop :=
  ∀ (i : Instr) (s t : State), exec i s = .next t →
    ((∀ v, i ≠ .wrCr1 v) → i ≠ .reset →
      t.block.control1 = s.block.control1 ∧ t.block.spiEnabled = s.block.spiEnabled ∧
      t.block.masterMode = s.block.masterMode) ∧
    ((∀ v, i ≠ .wrCr2 v) → i ≠ .reset → t.block.control2 = s.block.control2) ∧
    ((∀ v, i ≠ .wrDr v) → t.block.dataOut = s.block.dataOut) ∧
    (exchangedBy i s.block = [] → i ≠ .reset → t.block.dataIn = s.block.dataIn) ∧
    ((∀ v, i ≠ .wrCscr v) → i ≠ .reset →
      t.block.csControl = s.block.csControl ∧
      t.block.cs0Enabled = s.block.cs0Enabled ∧ t.block.cs1Enabled = s.block.cs1Enabled ∧
      t.block.cs0Active = s.block.cs0Active ∧ t.block.cs1Active = s.block.cs1Active) ∧
    (t.rdata ≠ none ↔ i = .rdCr1 ∨ i = .rdCr2 ∨ i = .rdSr ∨ i = .rdDr ∨ i = .rdCscr ∨ ∃ off, i = .rdInvalid off)

/-- The byte in data_out cannot be observed: two runs that start in states equal but for it, however long and whatever
is presented, stay equal but for it, and return, exchange, report and drive the same (10_state.md section 5; the
spec's decision D11). -/
def Obligations.DataOutCannotBeObserved : Prop :=
  ∀ (n : Nat) (s t : State), SameButDataOut s t →
    (∀ s', Host.Core.run core n s = .next s' → ∃ t', Host.Core.run core n t = .next t' ∧ SameButDataOut s' t') ∧
    (∀ r, Host.Core.run core n s = .refused r → Host.Core.run core n t = .refused r)

/-! Reset -/

/-- RESET from any state: every element at its value after reset, the lines deasserted, data_out unchanged (the spec's
decision D11), the raw CSCR by the open parameter (D10); no exchange, no report. The state a run starts in is such a
state, with data_out and CSCR at 0 by the model's choice, log entries 1 and 2. -/
def Obligations.ResetSetsEveryElement : Prop :=
  (∀ s : State, exec .reset s = .next { s with
    rdata := none
    block :=
      { control1 := 0, spiEnabled := false, masterMode := false, control2 := 0
        status := { rxne := false, txe := true, udr := false, ovr := false, bsy := false }
        dataOut := s.block.dataOut, dataIn := 0
        csControl := if Config.pResetCsctrl = .zero then 0 else s.block.csControl
        cs0Enabled := false, cs1Enabled := false, cs0Active := false, cs1Active := false
        csN0 := true, csN1 := true, irq := false } }) ∧
  State.reset.block.dataOut = 0 ∧ State.reset.block.csControl = 0 ∧
  exec .reset State.reset = .next State.reset

/-- After reset the status is TXE only and both chip-select outputs and the interrupt output are deasserted
(70_reset_and_hazards.md R163). -/
def Obligations.AfterResetTxeOnlyAndLinesDeasserted : Prop :=
  ∀ s : State, ∃ t, exec .reset s = .next t ∧ exec .rdSr t = .next { t with rdata := some 0x00000002 } ∧
    t.block.csN0 = true ∧ t.block.csN1 = true ∧ t.block.irq = false

/-- Reset is deterministic: from any two states it gives the same controller, up to data_out and, under RETAIN, the raw
CSCR (70_reset_and_hazards.md R165). That data_out keeps its value is the spec's decision D11, and that the raw CSCR is
0 or keeps its value is its open parameter of D10. -/
def Obligations.ResetForgetsTheStateBefore : Prop :=
  ∀ s₁ s₂ : State, ∃ t₁ t₂, exec .reset s₁ = .next t₁ ∧ exec .reset s₂ = .next t₂ ∧
    { t₁.block with dataOut := 0, csControl := 0 } = { t₂.block with dataOut := 0, csControl := 0 } ∧
    t₁.block.dataOut = s₁.block.dataOut ∧ t₂.block.dataOut = s₂.block.dataOut ∧
    t₁.block.csControl = (if Config.pResetCsctrl = .zero then 0 else s₁.block.csControl) ∧
    t₂.block.csControl = (if Config.pResetCsctrl = .zero then 0 else s₂.block.csControl)

/-! The invariant of the observation points -/

/-- The state a run starts in meets the invariant. -/
def Obligations.ResetStateMeetsInvariant : Prop := State.reset.block.Inv

/-- Every step keeps the invariant, from every state that meets it, reached or not: TXE set, BSY and UDR clear, OVR
only with RXNE, the decoded flags those of the raw registers (but for CSCR after a reset under RETAIN), and all three
output lines at the levels their functions give (10_state.md section 8). -/
def Obligations.EveryStepKeepsInvariant : Prop :=
  ∀ s t : State, s.block.Inv → step s = .next t → t.block.Inv

/-- In every run from reset, under any requests, resets and answers, every observation point meets the invariant
(10_state.md section 8, sentences the spec marks "[derived]"). -/
def Obligations.EveryReachableStateMeetsInvariant : Prop :=
  ∀ s : State, Reachable s → s.block.Inv

/-- In every run from reset a read of SR returns 0x02, 0x03 or 0x0B (10_state.md section 8, a sentence the spec marks
"[derived]"). -/
def Obligations.ReachableStatusReadsAreThree : Prop :=
  ∀ s : State, Reachable s → ∃ v : Word, exec .rdSr s = .next { s with rdata := some v } ∧
    (v = 0x00000002 ∨ v = 0x00000003 ∨ v = 0x0000000B)

/-- In every run from reset the interrupt line is TXEIE, or RXNEIE and RXNE, or ERRIE and OVR: TXEIE alone keeps it
asserted (43_outputs.md section 2, a sentence the spec marks "[derived]"). -/
def Obligations.ReachableInterruptReduces : Prop :=
  ∀ s : State, Reachable s →
    s.block.irq = (s.block.control2.getLsbD 7 || (s.block.control2.getLsbD 6 && s.block.status.rxne) ||
      (s.block.control2.getLsbD 5 && s.block.status.ovr))

/-- The decoded chip-select flags agree with the raw CSCR: in every run, unless the open parameter is RETAIN, and then
all four are 0 where they do not; after a CSCR write from any state; and, once they agree, through every operation but a
reset (10_state.md section 8, a sentence the spec marks "[derived]"). -/
def Obligations.ChipSelectFlagsAgreeWithRawRegister : Prop :=
  (∀ s : State, Reachable s → s.block.CsAgrees ∨ (Config.pResetCsctrl = .retain ∧ s.block.CsCleared)) ∧
  (∀ (v : Word) (s : State), ∃ t, exec (.wrCscr v) s = .next t ∧ t.block.CsAgrees) ∧
  (∀ (i : Instr) (s : State), i ≠ .reset → s.block.CsAgrees → ∃ t, exec i s = .next t ∧ t.block.CsAgrees)

/-- While a transfer is permitted exactly one chip-select line is asserted (level 0), that of the selected chip-select,
and the transfer leaves both lines alone (42_transfer.md section 2, a sentence the spec marks "[derived]"). -/
def Obligations.TransferHasExactlyOneLineAsserted : Prop :=
  ∀ (v : Word) (s : State), s.block.Inv → s.block.permitted = true → ∃ t, exec (.wrDr v) s = .next t ∧
    t.block.csN0 = s.block.csN0 ∧ t.block.csN1 = s.block.csN1 ∧
    ((s.block.csN0 = false ∧ s.block.csN1 = true ∧ s.block.cs0Enabled = true ∧ s.block.cs0Active = true) ∨
      (s.block.csN0 = true ∧ s.block.csN1 = false ∧ s.block.cs1Enabled = true ∧ s.block.cs1Active = true))
end

