-- ==== Sys2Proof/Laws/Decode.lean ====
section
/-! SUPPORT. Laws of the register map, of the access word and of decoding a request. -/

namespace Sys2Proof

/-- A register's own offset selects it. -/
@[simp] theorem regAt_offset (r : Reg) : regAt r.offset = some r := by cases r <;> rfl

/-- An offset selects a register only if it is that register's. -/
theorem offset_of_regAt {off : Offset} {r : Reg} (h : regAt off = some r) : off = r.offset := by
  simp only [regAt] at h
  split_ifs at h <;> simp_all [Reg.offset] <;> subst h <;> rfl

/-- An offset is invalid exactly when it is none of the five of the map. -/
theorem invalidOffset_iff (off : Offset) :
    invalidOffset off = true ↔ off ≠ 0x000#12 ∧ off ≠ 0x004#12 ∧ off ≠ 0x008#12 ∧ off ≠ 0x00C#12 ∧ off ≠ 0x010#12 := by
  simp only [invalidOffset, regAt]
  split_ifs <;> simp_all

/-- What an invalid offset selects. -/
theorem regAt_of_invalid {off : Offset} (h : invalidOffset off = true) : regAt off = none := by
  simpa [invalidOffset] using h

@[simp] theorem Dir.ofBit_bit (d : Dir) : Dir.ofBit d.bit = d := by cases d <;> rfl

@[simp] theorem Dir.bit_ofBit (b : Bool) : (Dir.ofBit b).bit = b := by cases b <;> rfl

/-- The bits of a word written as 17 bits of DIR, SIZE, OFF before 32 bits of WDATA. -/
theorem AccessWord.getLsbD_append (p : BitVec 17) (d : Word) (i : Nat) :
    BitVec.getLsbD (w := 49) (p ++ d) i = if i < 32 then d.getLsbD i else p.getLsbD (i - 32) :=
  BitVec.getLsbD_append

/-- The 17 bits of DIR, SIZE, OFF. -/
theorem Request.prefix_getLsbD (b : Bool) (z : SizeField) (o : Offset) (i : Nat) :
    BitVec.getLsbD (w := 17) (BitVec.ofBool b ++ z ++ o) i =
      if i < 12 then o.getLsbD i else if i - 12 < 4 then z.getLsbD (i - 12) else (i - 12 - 4 == 0 && b) := by
  show BitVec.getLsbD (BitVec.ofBool b ++ z ++ o) i = _
  simp only [BitVec.getLsbD_append, BitVec.getLsbD_ofBool]
  cases h : (i - 12 - 4 == 0) <;> simp_all

/-- The fields of a word that is 17 bits of DIR, SIZE, OFF before 32 bits of WDATA. -/
theorem Request.ofAw_append (p : BitVec 17) (d : Word) :
    Request.ofAw (p ++ d) =
      { dir := Dir.ofBit (p.getLsbD 16), size := p.extractLsb' 12 4, off := p.extractLsb' 0 12, wdata := d } := by
  simp only [Request.ofAw, Request.mk.injEq, AccessWord.getLsbD_append]
  refine ⟨rfl, ?_, ?_, ?_⟩ <;> apply BitVec.eq_of_getLsbD_eq <;> intro i hi <;>
    simp only [BitVec.getLsbD_extractLsb', AccessWord.getLsbD_append, hi, decide_true, Bool.true_and]
  · rw [if_neg (by omega)]; congr 1; omega
  · rw [if_neg (by omega)]; congr 1; omega
  · simp [hi]

/-- Every word is its 17 bits of DIR, SIZE, OFF before its 32 bits of WDATA. -/
theorem AccessWord.eq_append (w : AccessWord) : w = w.extractLsb' 32 17 ++ w.extractLsb' 0 32 := by
  apply BitVec.eq_of_getLsbD_eq
  intro i hi
  rw [AccessWord.getLsbD_append]
  split_ifs with h
  · simp [h]
  · rw [BitVec.getLsbD_extractLsb', show 32 + (i - 32) = i by omega]
    simp [show i - 32 < 17 by omega]

/-- No field of a request is lost or moved in its access word. -/
theorem Request.ofAw_toAw (r : Request) : Request.ofAw r.toAw = r := by
  obtain ⟨d, z, o, v⟩ := r
  refine (Request.ofAw_append _ _).trans ?_
  simp only [Request.mk.injEq, Request.prefix_getLsbD]
  refine ⟨by simp, ?_, ?_, trivial⟩ <;> apply BitVec.eq_of_getLsbD_eq <;> intro i hi <;>
    simp only [BitVec.getLsbD_extractLsb', Request.prefix_getLsbD, hi, decide_true, Bool.true_and]
  · rw [if_neg (by omega), if_pos (by omega)]; congr 1; omega
  · simp [hi]

/-- No bit of an access word is lost or moved in its request. -/
theorem Request.toAw_ofAw (w : AccessWord) : (Request.ofAw w).toAw = w := by
  apply BitVec.eq_of_getLsbD_eq
  intro i hi
  refine (AccessWord.getLsbD_append _ _ i).trans ?_
  simp only [Request.prefix_getLsbD, Request.ofAw, Dir.bit_ofBit, BitVec.getLsbD_extractLsb']
  split_ifs with h1 h2 h3
  · simp [h1]
  · rw [show 32 + (i - 32) = i by omega]; simp [h2]
  · rw [show 44 + (i - 32 - 12) = i by omega]; simp [h3]
  · obtain rfl : i = 48 := by omega
    simp

/-- A 4-byte read decodes by the register map. -/
theorem decodeRequest_read (off : Offset) (d : Word) :
    decodeRequest { dir := .read, size := 4#4, off := off, wdata := d } = .ok (readOp off (regAt off)) := rfl

/-- A 4-byte write decodes by the register map. -/
theorem decodeRequest_write (off : Offset) (v : Word) :
    decodeRequest { dir := .write, size := 4#4, off := off, wdata := v } = .ok (writeOp off v (regAt off)) := rfl

/-- A request of any other size is refused. -/
theorem decodeRequest_otherSize {r : Request} (h : r.size ≠ 4#4) : decodeRequest r = .error .unsupportedSize :=
  if_neg h

/-- A request that decodes has size 4. -/
theorem size_of_decodeRequest {r : Request} {i : Instr} (h : decodeRequest r = .ok i) : r.size = 4#4 := by
  by_contra hs
  rw [decodeRequest_otherSize hs] at h
  cases h

/-- An access word decodes as its request does. -/
@[simp] theorem decode_toAw (r : Request) : decode r.toAw = decodeRequest r := by rw [decode, Request.ofAw_toAw]

/-- A mask that spares WDATA keeps the 17 bits of DIR, SIZE, OFF under its own and clears WDATA. -/
theorem AccessWord.append_and (p m : BitVec 17) (d : Word) :
    (p ++ d : AccessWord) &&& (m ++ 0#32) = ((p &&& m) ++ 0#32 : AccessWord) := by
  apply BitVec.eq_of_getLsbD_eq
  intro i hi
  simp only [AccessWord.getLsbD_append, BitVec.getLsbD_and]
  split_ifs <;> simp

/-- Words differ if their 17 bits of DIR, SIZE, OFF do. -/
theorem AccessWord.append_zero_inj {p q : BitVec 17} : (p ++ 0#32 : AccessWord) = q ++ 0#32 ↔ p = q := by
  refine ⟨fun h => ?_, fun h => by rw [h]⟩
  apply BitVec.eq_of_getLsbD_eq
  intro i hi
  have hb := congrArg (fun x : AccessWord => x.getLsbD (32 + i)) h
  simp only [AccessWord.getLsbD_append] at hb
  simpa [show ¬ 32 + i < 32 by omega] using hb

/-- A word whose WDATA is cleared is the word under the mask of the exact rows. -/
theorem Request.toAw_clear_wdata (r : Request) : ({ r with wdata := 0#32 } : Request).toAw = r.toAw &&& 0x1FFFF00000000#49 := by
  have h := AccessWord.append_and (BitVec.ofBool r.dir.bit ++ r.size ++ r.off) (BitVec.allOnes 17) r.wdata
  rw [BitVec.and_allOnes] at h
  exact h.symm

/-- The 17 bits of DIR, SIZE, OFF are those of a 4-byte request at `o` exactly when the three fields are. -/
theorem AccessWord.prefix_eq_iff (p : BitVec 17) (b : Bool) (o : Offset) :
    p = (BitVec.ofBool b ++ 4#4 ++ o : BitVec 17) ↔
      p.getLsbD 16 = b ∧ p.extractLsb' 12 4 = 4#4 ∧ p.extractLsb' 0 12 = o := by
  constructor
  · rintro rfl
    refine ⟨by rw [Request.prefix_getLsbD]; simp, ?_, ?_⟩ <;> apply BitVec.eq_of_getLsbD_eq <;> intro i hi <;>
      simp only [BitVec.getLsbD_extractLsb', Request.prefix_getLsbD, hi, decide_true, Bool.true_and]
    · rw [if_neg (by omega), if_pos (by omega)]; congr 1; omega
    · simp [hi]
  · rintro ⟨rfl, h, rfl⟩
    apply BitVec.eq_of_getLsbD_eq
    intro i hi
    replace hi : i < 17 := hi
    rw [Request.prefix_getLsbD, ← h]
    interval_cases i <;> simp

/-- DIR and SIZE of the 17 bits are those of a 4-byte request exactly when the two fields are. -/
theorem AccessWord.prefix_and_eq_iff (p : BitVec 17) (b : Bool) :
    p &&& 0x1F000#17 = (BitVec.ofBool b ++ 4#4 ++ 0#12 : BitVec 17) ↔ p.getLsbD 16 = b ∧ p.extractLsb' 12 4 = 4#4 := by
  have hz : (p &&& 0x1F000#17).extractLsb' 12 4 = p.extractLsb' 12 4 := by
    apply BitVec.eq_of_getLsbD_eq
    intro i hi
    interval_cases i <;> simp
  have ho : (p &&& 0x1F000#17).extractLsb' 0 12 = 0#12 := by
    apply BitVec.eq_of_getLsbD_eq
    intro i hi
    interval_cases i <;> simp
  rw [AccessWord.prefix_eq_iff, hz, ho]
  simp

end Sys2Proof
end

