-- ==== Sys2Proof/Laws/State.lean ====
section
/-! SUPPORT. One lemma per field per update: of the status flags, of the controller, of the state. -/

namespace Sys2Proof.Machine


/-! Status flags -/

@[simp] theorem Status.startTransfer_rxne (st : Status) : (st.startTransfer).rxne = st.rxne := rfl
@[simp] theorem Status.startTransfer_txe (st : Status) : (st.startTransfer).txe = false := rfl
@[simp] theorem Status.startTransfer_udr (st : Status) : (st.startTransfer).udr = st.udr := rfl
@[simp] theorem Status.startTransfer_ovr (st : Status) : (st.startTransfer).ovr = st.ovr := rfl
@[simp] theorem Status.startTransfer_bsy (st : Status) : (st.startTransfer).bsy = true := rfl
@[simp] theorem Status.endTransfer_rxne (st : Status) : (st.endTransfer).rxne = true := rfl
@[simp] theorem Status.endTransfer_txe (st : Status) : (st.endTransfer).txe = true := rfl
@[simp] theorem Status.endTransfer_udr (st : Status) : (st.endTransfer).udr = st.udr := rfl
@[simp] theorem Status.endTransfer_ovr (st : Status) : (st.endTransfer).ovr = st.ovr := rfl
@[simp] theorem Status.endTransfer_bsy (st : Status) : (st.endTransfer).bsy = false := rfl
@[simp] theorem Status.acknowledge_rxne (st : Status) : (st.acknowledge).rxne = false := rfl
@[simp] theorem Status.acknowledge_txe (st : Status) : (st.acknowledge).txe = st.txe := rfl
@[simp] theorem Status.acknowledge_udr (st : Status) : (st.acknowledge).udr = false := rfl
@[simp] theorem Status.acknowledge_ovr (st : Status) : (st.acknowledge).ovr = false := rfl
@[simp] theorem Status.acknowledge_bsy (st : Status) : (st.acknowledge).bsy = st.bsy := rfl
@[simp] theorem Status.noteOverrun_rxne (st : Status) : st.noteOverrun.rxne = st.rxne := by
  unfold Status.noteOverrun
  split <;> rfl
@[simp] theorem Status.noteOverrun_txe (st : Status) : st.noteOverrun.txe = st.txe := by
  unfold Status.noteOverrun
  split <;> rfl
@[simp] theorem Status.noteOverrun_udr (st : Status) : st.noteOverrun.udr = st.udr := by
  unfold Status.noteOverrun
  split <;> rfl
@[simp] theorem Status.noteOverrun_ovr (st : Status) : st.noteOverrun.ovr = (st.ovr || st.rxne) := by
  cases h : st.rxne <;> simp [Status.noteOverrun, h]
@[simp] theorem Status.noteOverrun_bsy (st : Status) : st.noteOverrun.bsy = st.bsy := by
  unfold Status.noteOverrun
  split <;> rfl

/-! The controller -/

@[simp] theorem Block.csUpdate_control1 (b : Block) : (b.csUpdate).control1 = b.control1 := rfl
@[simp] theorem Block.csUpdate_spiEnabled (b : Block) : (b.csUpdate).spiEnabled = b.spiEnabled := rfl
@[simp] theorem Block.csUpdate_masterMode (b : Block) : (b.csUpdate).masterMode = b.masterMode := rfl
@[simp] theorem Block.csUpdate_control2 (b : Block) : (b.csUpdate).control2 = b.control2 := rfl
@[simp] theorem Block.csUpdate_status (b : Block) : (b.csUpdate).status = b.status := rfl
@[simp] theorem Block.csUpdate_dataOut (b : Block) : (b.csUpdate).dataOut = b.dataOut := rfl
@[simp] theorem Block.csUpdate_dataIn (b : Block) : (b.csUpdate).dataIn = b.dataIn := rfl
@[simp] theorem Block.csUpdate_csControl (b : Block) : (b.csUpdate).csControl = b.csControl := rfl
@[simp] theorem Block.csUpdate_cs0Enabled (b : Block) : (b.csUpdate).cs0Enabled = b.cs0Enabled := rfl
@[simp] theorem Block.csUpdate_cs1Enabled (b : Block) : (b.csUpdate).cs1Enabled = b.cs1Enabled := rfl
@[simp] theorem Block.csUpdate_cs0Active (b : Block) : (b.csUpdate).cs0Active = b.cs0Active := rfl
@[simp] theorem Block.csUpdate_cs1Active (b : Block) : (b.csUpdate).cs1Active = b.cs1Active := rfl
@[simp] theorem Block.csUpdate_csN0 (b : Block) : (b.csUpdate).csN0 = !b.sel0 := rfl
@[simp] theorem Block.csUpdate_csN1 (b : Block) : (b.csUpdate).csN1 = !b.sel1 := rfl
@[simp] theorem Block.csUpdate_irq (b : Block) : (b.csUpdate).irq = b.irq := rfl
@[simp] theorem Block.irqUpdate_control1 (b : Block) : (b.irqUpdate).control1 = b.control1 := rfl
@[simp] theorem Block.irqUpdate_spiEnabled (b : Block) : (b.irqUpdate).spiEnabled = b.spiEnabled := rfl
@[simp] theorem Block.irqUpdate_masterMode (b : Block) : (b.irqUpdate).masterMode = b.masterMode := rfl
@[simp] theorem Block.irqUpdate_control2 (b : Block) : (b.irqUpdate).control2 = b.control2 := rfl
@[simp] theorem Block.irqUpdate_status (b : Block) : (b.irqUpdate).status = b.status := rfl
@[simp] theorem Block.irqUpdate_dataOut (b : Block) : (b.irqUpdate).dataOut = b.dataOut := rfl
@[simp] theorem Block.irqUpdate_dataIn (b : Block) : (b.irqUpdate).dataIn = b.dataIn := rfl
@[simp] theorem Block.irqUpdate_csControl (b : Block) : (b.irqUpdate).csControl = b.csControl := rfl
@[simp] theorem Block.irqUpdate_cs0Enabled (b : Block) : (b.irqUpdate).cs0Enabled = b.cs0Enabled := rfl
@[simp] theorem Block.irqUpdate_cs1Enabled (b : Block) : (b.irqUpdate).cs1Enabled = b.cs1Enabled := rfl
@[simp] theorem Block.irqUpdate_cs0Active (b : Block) : (b.irqUpdate).cs0Active = b.cs0Active := rfl
@[simp] theorem Block.irqUpdate_cs1Active (b : Block) : (b.irqUpdate).cs1Active = b.cs1Active := rfl
@[simp] theorem Block.irqUpdate_csN0 (b : Block) : (b.irqUpdate).csN0 = b.csN0 := rfl
@[simp] theorem Block.irqUpdate_csN1 (b : Block) : (b.irqUpdate).csN1 = b.csN1 := rfl
@[simp] theorem Block.irqUpdate_irq (b : Block) : (b.irqUpdate).irq = irqFn b.control2 b.status := rfl
@[simp] theorem Block.storeCr1_control1 (v : Word) (b : Block) : (b.storeCr1 v).control1 = v := rfl
@[simp] theorem Block.storeCr1_spiEnabled (v : Word) (b : Block) : (b.storeCr1 v).spiEnabled = cr1Enable v := rfl
@[simp] theorem Block.storeCr1_masterMode (v : Word) (b : Block) : (b.storeCr1 v).masterMode = cr1Master v := rfl
@[simp] theorem Block.storeCr1_control2 (v : Word) (b : Block) : (b.storeCr1 v).control2 = b.control2 := rfl
@[simp] theorem Block.storeCr1_status (v : Word) (b : Block) : (b.storeCr1 v).status = b.status := rfl
@[simp] theorem Block.storeCr1_dataOut (v : Word) (b : Block) : (b.storeCr1 v).dataOut = b.dataOut := rfl
@[simp] theorem Block.storeCr1_dataIn (v : Word) (b : Block) : (b.storeCr1 v).dataIn = b.dataIn := rfl
@[simp] theorem Block.storeCr1_csControl (v : Word) (b : Block) : (b.storeCr1 v).csControl = b.csControl := rfl
@[simp] theorem Block.storeCr1_cs0Enabled (v : Word) (b : Block) : (b.storeCr1 v).cs0Enabled = b.cs0Enabled := rfl
@[simp] theorem Block.storeCr1_cs1Enabled (v : Word) (b : Block) : (b.storeCr1 v).cs1Enabled = b.cs1Enabled := rfl
@[simp] theorem Block.storeCr1_cs0Active (v : Word) (b : Block) : (b.storeCr1 v).cs0Active = b.cs0Active := rfl
@[simp] theorem Block.storeCr1_cs1Active (v : Word) (b : Block) : (b.storeCr1 v).cs1Active = b.cs1Active := rfl
@[simp] theorem Block.storeCr1_csN0 (v : Word) (b : Block) : (b.storeCr1 v).csN0 = b.csN0 := rfl
@[simp] theorem Block.storeCr1_csN1 (v : Word) (b : Block) : (b.storeCr1 v).csN1 = b.csN1 := rfl
@[simp] theorem Block.storeCr1_irq (v : Word) (b : Block) : (b.storeCr1 v).irq = b.irq := rfl
@[simp] theorem Block.storeCr2_control1 (v : Word) (b : Block) : (b.storeCr2 v).control1 = b.control1 := rfl
@[simp] theorem Block.storeCr2_spiEnabled (v : Word) (b : Block) : (b.storeCr2 v).spiEnabled = b.spiEnabled := rfl
@[simp] theorem Block.storeCr2_masterMode (v : Word) (b : Block) : (b.storeCr2 v).masterMode = b.masterMode := rfl
@[simp] theorem Block.storeCr2_control2 (v : Word) (b : Block) : (b.storeCr2 v).control2 = v := rfl
@[simp] theorem Block.storeCr2_status (v : Word) (b : Block) : (b.storeCr2 v).status = b.status := rfl
@[simp] theorem Block.storeCr2_dataOut (v : Word) (b : Block) : (b.storeCr2 v).dataOut = b.dataOut := rfl
@[simp] theorem Block.storeCr2_dataIn (v : Word) (b : Block) : (b.storeCr2 v).dataIn = b.dataIn := rfl
@[simp] theorem Block.storeCr2_csControl (v : Word) (b : Block) : (b.storeCr2 v).csControl = b.csControl := rfl
@[simp] theorem Block.storeCr2_cs0Enabled (v : Word) (b : Block) : (b.storeCr2 v).cs0Enabled = b.cs0Enabled := rfl
@[simp] theorem Block.storeCr2_cs1Enabled (v : Word) (b : Block) : (b.storeCr2 v).cs1Enabled = b.cs1Enabled := rfl
@[simp] theorem Block.storeCr2_cs0Active (v : Word) (b : Block) : (b.storeCr2 v).cs0Active = b.cs0Active := rfl
@[simp] theorem Block.storeCr2_cs1Active (v : Word) (b : Block) : (b.storeCr2 v).cs1Active = b.cs1Active := rfl
@[simp] theorem Block.storeCr2_csN0 (v : Word) (b : Block) : (b.storeCr2 v).csN0 = b.csN0 := rfl
@[simp] theorem Block.storeCr2_csN1 (v : Word) (b : Block) : (b.storeCr2 v).csN1 = b.csN1 := rfl
@[simp] theorem Block.storeCr2_irq (v : Word) (b : Block) : (b.storeCr2 v).irq = b.irq := rfl
@[simp] theorem Block.queueByte_control1 (v : Word) (b : Block) : (b.queueByte v).control1 = b.control1 := rfl
@[simp] theorem Block.queueByte_spiEnabled (v : Word) (b : Block) : (b.queueByte v).spiEnabled = b.spiEnabled := rfl
@[simp] theorem Block.queueByte_masterMode (v : Word) (b : Block) : (b.queueByte v).masterMode = b.masterMode := rfl
@[simp] theorem Block.queueByte_control2 (v : Word) (b : Block) : (b.queueByte v).control2 = b.control2 := rfl
@[simp] theorem Block.queueByte_status (v : Word) (b : Block) : (b.queueByte v).status = b.status := rfl
@[simp] theorem Block.queueByte_dataOut (v : Word) (b : Block) : (b.queueByte v).dataOut = drByte v := rfl
@[simp] theorem Block.queueByte_dataIn (v : Word) (b : Block) : (b.queueByte v).dataIn = b.dataIn := rfl
@[simp] theorem Block.queueByte_csControl (v : Word) (b : Block) : (b.queueByte v).csControl = b.csControl := rfl
@[simp] theorem Block.queueByte_cs0Enabled (v : Word) (b : Block) : (b.queueByte v).cs0Enabled = b.cs0Enabled := rfl
@[simp] theorem Block.queueByte_cs1Enabled (v : Word) (b : Block) : (b.queueByte v).cs1Enabled = b.cs1Enabled := rfl
@[simp] theorem Block.queueByte_cs0Active (v : Word) (b : Block) : (b.queueByte v).cs0Active = b.cs0Active := rfl
@[simp] theorem Block.queueByte_cs1Active (v : Word) (b : Block) : (b.queueByte v).cs1Active = b.cs1Active := rfl
@[simp] theorem Block.queueByte_csN0 (v : Word) (b : Block) : (b.queueByte v).csN0 = b.csN0 := rfl
@[simp] theorem Block.queueByte_csN1 (v : Word) (b : Block) : (b.queueByte v).csN1 = b.csN1 := rfl
@[simp] theorem Block.queueByte_irq (v : Word) (b : Block) : (b.queueByte v).irq = b.irq := rfl
@[simp] theorem Block.acknowledge_control1 (b : Block) : (b.acknowledge).control1 = b.control1 := rfl
@[simp] theorem Block.acknowledge_spiEnabled (b : Block) : (b.acknowledge).spiEnabled = b.spiEnabled := rfl
@[simp] theorem Block.acknowledge_masterMode (b : Block) : (b.acknowledge).masterMode = b.masterMode := rfl
@[simp] theorem Block.acknowledge_control2 (b : Block) : (b.acknowledge).control2 = b.control2 := rfl
@[simp] theorem Block.acknowledge_status (b : Block) : (b.acknowledge).status = b.status.acknowledge := rfl
@[simp] theorem Block.acknowledge_dataOut (b : Block) : (b.acknowledge).dataOut = b.dataOut := rfl
@[simp] theorem Block.acknowledge_dataIn (b : Block) : (b.acknowledge).dataIn = b.dataIn := rfl
@[simp] theorem Block.acknowledge_csControl (b : Block) : (b.acknowledge).csControl = b.csControl := rfl
@[simp] theorem Block.acknowledge_cs0Enabled (b : Block) : (b.acknowledge).cs0Enabled = b.cs0Enabled := rfl
@[simp] theorem Block.acknowledge_cs1Enabled (b : Block) : (b.acknowledge).cs1Enabled = b.cs1Enabled := rfl
@[simp] theorem Block.acknowledge_cs0Active (b : Block) : (b.acknowledge).cs0Active = b.cs0Active := rfl
@[simp] theorem Block.acknowledge_cs1Active (b : Block) : (b.acknowledge).cs1Active = b.cs1Active := rfl
@[simp] theorem Block.acknowledge_csN0 (b : Block) : (b.acknowledge).csN0 = b.csN0 := rfl
@[simp] theorem Block.acknowledge_csN1 (b : Block) : (b.acknowledge).csN1 = b.csN1 := rfl
@[simp] theorem Block.acknowledge_irq (b : Block) : (b.acknowledge).irq = b.irq := rfl
@[simp] theorem Block.storeCscr_control1 (v : Word) (b : Block) : (b.storeCscr v).control1 = b.control1 := rfl
@[simp] theorem Block.storeCscr_spiEnabled (v : Word) (b : Block) : (b.storeCscr v).spiEnabled = b.spiEnabled := rfl
@[simp] theorem Block.storeCscr_masterMode (v : Word) (b : Block) : (b.storeCscr v).masterMode = b.masterMode := rfl
@[simp] theorem Block.storeCscr_control2 (v : Word) (b : Block) : (b.storeCscr v).control2 = b.control2 := rfl
@[simp] theorem Block.storeCscr_status (v : Word) (b : Block) : (b.storeCscr v).status = b.status := rfl
@[simp] theorem Block.storeCscr_dataOut (v : Word) (b : Block) : (b.storeCscr v).dataOut = b.dataOut := rfl
@[simp] theorem Block.storeCscr_dataIn (v : Word) (b : Block) : (b.storeCscr v).dataIn = b.dataIn := rfl
@[simp] theorem Block.storeCscr_csControl (v : Word) (b : Block) : (b.storeCscr v).csControl = v := rfl
@[simp] theorem Block.storeCscr_cs0Enabled (v : Word) (b : Block) : (b.storeCscr v).cs0Enabled = cscrEnable0 v := rfl
@[simp] theorem Block.storeCscr_cs1Enabled (v : Word) (b : Block) : (b.storeCscr v).cs1Enabled = cscrEnable1 v := rfl
@[simp] theorem Block.storeCscr_cs0Active (v : Word) (b : Block) : (b.storeCscr v).cs0Active = cscrActive0 v := rfl
@[simp] theorem Block.storeCscr_cs1Active (v : Word) (b : Block) : (b.storeCscr v).cs1Active = cscrActive1 v := rfl
@[simp] theorem Block.storeCscr_csN0 (v : Word) (b : Block) : (b.storeCscr v).csN0 = b.csN0 := rfl
@[simp] theorem Block.storeCscr_csN1 (v : Word) (b : Block) : (b.storeCscr v).csN1 = b.csN1 := rfl
@[simp] theorem Block.storeCscr_irq (v : Word) (b : Block) : (b.storeCscr v).irq = b.irq := rfl
@[simp] theorem Block.clear_control1 (p : ResetCsctrl) (b : Block) : (b.clear p).control1 = 0#32 := rfl
@[simp] theorem Block.clear_spiEnabled (p : ResetCsctrl) (b : Block) : (b.clear p).spiEnabled = false := rfl
@[simp] theorem Block.clear_masterMode (p : ResetCsctrl) (b : Block) : (b.clear p).masterMode = false := rfl
@[simp] theorem Block.clear_control2 (p : ResetCsctrl) (b : Block) : (b.clear p).control2 = 0#32 := rfl
@[simp] theorem Block.clear_status (p : ResetCsctrl) (b : Block) : (b.clear p).status = Status.txeOnly := rfl
@[simp] theorem Block.clear_dataOut (p : ResetCsctrl) (b : Block) : (b.clear p).dataOut = b.dataOut := rfl
@[simp] theorem Block.clear_dataIn (p : ResetCsctrl) (b : Block) : (b.clear p).dataIn = 0#8 := rfl
@[simp] theorem Block.clear_cs0Enabled (p : ResetCsctrl) (b : Block) : (b.clear p).cs0Enabled = false := rfl
@[simp] theorem Block.clear_cs1Enabled (p : ResetCsctrl) (b : Block) : (b.clear p).cs1Enabled = false := rfl
@[simp] theorem Block.clear_cs0Active (p : ResetCsctrl) (b : Block) : (b.clear p).cs0Active = false := rfl
@[simp] theorem Block.clear_cs1Active (p : ResetCsctrl) (b : Block) : (b.clear p).cs1Active = false := rfl
@[simp] theorem Block.clear_csN0 (p : ResetCsctrl) (b : Block) : (b.clear p).csN0 = b.csN0 := rfl
@[simp] theorem Block.clear_csN1 (p : ResetCsctrl) (b : Block) : (b.clear p).csN1 = b.csN1 := rfl
@[simp] theorem Block.clear_irq (p : ResetCsctrl) (b : Block) : (b.clear p).irq = b.irq := rfl
@[simp] theorem Block.clear_zero_csControl (b : Block) : (b.clear .zero).csControl = 0#32 := rfl
@[simp] theorem Block.clear_retain_csControl (b : Block) : (b.clear .retain).csControl = b.csControl := rfl

/-! The state -/

@[simp] theorem State.onBlock_block (f : Block → Block) (s : State) : (s.onBlock f).block = f s.block := rfl
@[simp] theorem State.onBlock_inbox (f : Block → Block) (s : State) : (s.onBlock f).inbox = s.inbox := rfl
@[simp] theorem State.onBlock_rdata (f : Block → Block) (s : State) : (s.onBlock f).rdata = s.rdata := rfl
@[simp] theorem State.onBlock_diag (f : Block → Block) (s : State) : (s.onBlock f).diag = s.diag := rfl
@[simp] theorem State.onBlock_exchanged (f : Block → Block) (s : State) : (s.onBlock f).exchanged = s.exchanged := rfl
@[simp] theorem State.onBlock_xchgScript (f : Block → Block) (s : State) : (s.onBlock f).xchgScript = s.xchgScript := rfl
@[simp] theorem State.onBlock_xchgCount (f : Block → Block) (s : State) : (s.onBlock f).xchgCount = s.xchgCount := rfl
@[simp] theorem State.exchange_block (s : State) : (s.exchange).block = s.block := rfl
@[simp] theorem State.exchange_inbox (s : State) : (s.exchange).inbox = s.inbox := rfl
@[simp] theorem State.exchange_rdata (s : State) : (s.exchange).rdata = s.rdata := rfl
@[simp] theorem State.exchange_diag (s : State) : (s.exchange).diag = s.diag := rfl
@[simp] theorem State.exchange_exchanged (s : State) : (s.exchange).exchanged = s.exchanged ++ [s.block.dataOut] := rfl
@[simp] theorem State.exchange_xchgScript (s : State) : (s.exchange).xchgScript = s.xchgScript.tail := rfl
@[simp] theorem State.exchange_xchgCount (s : State) : (s.exchange).xchgCount = s.xchgCount + 1 := rfl
@[simp] theorem State.report_block (d : Dir) (o : Offset) (s : State) : (s.report d o).block = s.block := rfl
@[simp] theorem State.report_inbox (d : Dir) (o : Offset) (s : State) : (s.report d o).inbox = s.inbox := rfl
@[simp] theorem State.report_rdata (d : Dir) (o : Offset) (s : State) : (s.report d o).rdata = s.rdata := rfl
@[simp] theorem State.report_diag (d : Dir) (o : Offset) (s : State) : (s.report d o).diag = s.diag ++ [{ dir := d, off := o }] := rfl
@[simp] theorem State.report_exchanged (d : Dir) (o : Offset) (s : State) : (s.report d o).exchanged = s.exchanged := rfl
@[simp] theorem State.report_xchgScript (d : Dir) (o : Offset) (s : State) : (s.report d o).xchgScript = s.xchgScript := rfl
@[simp] theorem State.report_xchgCount (d : Dir) (o : Offset) (s : State) : (s.report d o).xchgCount = s.xchgCount := rfl

/-- A state is its seven fields. -/
theorem State.eq_of_fields {s t : State} (hb : s.block = t.block) (hi : s.inbox = t.inbox) (hr : s.rdata = t.rdata)
    (hd : s.diag = t.diag) (he : s.exchanged = t.exchanged) (hx : s.xchgScript = t.xchgScript)
    (hc : s.xchgCount = t.xchgCount) : s = t := by
  cases s
  cases t
  simp_all

end Sys2Proof.Machine
end

