-- ==== Sys2Proof/Laws/Ops.lean ====
section
/-! SUPPORT. What each shared operation comes to, said once: the transfer, reset, how an access ends. -/

namespace Sys2Proof.Machine

/-- The permission predicate in terms of the decoded flags. -/
theorem Block.permitted_eq (b : Block) :
    b.permitted = (b.spiEnabled && b.masterMode && ((b.cs0Enabled && b.cs0Active) ^^ (b.cs1Enabled && b.cs1Active))) :=
  rfl

/-- Permission does not look at the byte to send. -/
@[simp] theorem Block.permitted_queueByte (v : Word) (b : Block) : (b.queueByte v).permitted = b.permitted := rfl

/-- What SR reads when only TXE is set. -/
@[simp] theorem Status.txeOnly_value : Status.txeOnly.value = 0x00000002#32 := by decide

/-- The flags after the five flag steps of a transfer. -/
theorem Status.transfer_eq (st : Status) :
    st.startTransfer.noteOverrun.endTransfer =
      { rxne := true, txe := true, udr := st.udr, ovr := st.ovr || st.rxne, bsy := false } := by
  obtain ⟨rxne, txe, udr, ovr, bsy⟩ := st
  cases rxne <;> cases ovr <;> rfl

/-- Everything a transfer does to the controller. -/
theorem Block.transfer_eq (rx : Byte) (b : Block) :
    b.transfer rx =
      { b with
        status := { rxne := true, txe := true, udr := b.status.udr, ovr := b.status.ovr || b.status.rxne, bsy := false }
        dataIn := rx
        irq := irqFn b.control2
          { rxne := true, txe := true, udr := b.status.udr, ovr := b.status.ovr || b.status.rxne, bsy := false } } := by
  rw [← Status.transfer_eq b.status]
  rfl

/-- Everything a transfer does. -/
theorem State.transfer_eq (s : State) :
    s.transfer =
      { s with
        block := s.block.transfer s.answer
        exchanged := s.exchanged ++ [s.block.dataOut]
        xchgScript := s.xchgScript.tail
        xchgCount := s.xchgCount + 1 } :=
  rfl

/-- The transport's answer where it is settled. -/
@[simp] theorem State.answer_cons (s : State) (x : Byte) (xs : List Byte) :
    ({ s with xchgScript := x :: xs } : State).answer = x := rfl

/-- The answer depends on what stands at the transport's interface alone. -/
theorem State.answer_congr {s t : State} (hx : s.xchgScript = t.xchgScript) (hc : s.xchgCount = t.xchgCount) :
    s.answer = t.answer := by
  simp [State.answer, hx, hc]

/-- The encoder at the flags that reset leaves: deasserted when no source is enabled. -/
@[simp] theorem irqFn_zero (st : Status) : irqFn 0x00000000#32 st = false := by
  simp [irqFn, cr2TxeIe, cr2RxneIe, cr2ErrIe]

/-- Everything reset does to the controller. -/
theorem Block.resetWith_eq (p : ResetCsctrl) (b : Block) :
    b.resetWith p =
      { Block.reset with
        dataOut := b.dataOut
        csControl := match p with
          | .zero => 0x00000000#32
          | .retain => b.csControl } := by
  have h : irqFn 0x00000000#32 Status.txeOnly = false := irqFn_zero _
  unfold Block.resetWith Block.irqUpdate Block.csUpdate
  simp only [Block.clear_control2, Block.clear_status, h]
  rfl

/-- How a completed write ends. -/
theorem complete_eq_next {s t : State} : complete s = .next t ↔ t = { s with rdata := none } := by
  simp [complete, eq_comm]

/-- How a completed read ends. -/
theorem returnData_eq_next {v : Word} {s t : State} : returnData v s = .next t ↔ t = { s with rdata := some v } := by
  simp [returnData, eq_comm]

/-- The byte a DR write queues, and nothing else. -/
theorem execWrDr_denied {v : Word} {s : State} (h : s.block.permitted = false) :
    execWrDr v s = complete (s.onBlock (Block.queueByte v)) := by
  unfold execWrDr
  simp only [State.onBlock_block, Block.permitted_queueByte, h]
  rfl

/-- A permitted DR write is the transfer of the byte it queues. -/
theorem execWrDr_permitted {v : Word} {s : State} (h : s.block.permitted = true) :
    execWrDr v s = complete (s.onBlock (Block.queueByte v)).transfer := by
  unfold execWrDr
  simp only [State.onBlock_block, Block.permitted_queueByte, h]
  rfl

/-- The block's interrupt line is the platform line `P_IRQ`. -/
@[simp] theorem State.platformIrq_pIrq (s : State) : s.platformIrq Config.pIrq = some s.block.irq := if_pos rfl

/-- The block drives no other platform line. -/
theorem State.platformIrq_other {n : Nat} (s : State) (h : n ≠ Config.pIrq) : s.platformIrq n = none := if_neg h

end Sys2Proof.Machine
end

