-- ==== Sys2Proof/Laws/PerInstr.lean ====
section
/-! SUPPORT. Statements made per operation of `Instr`. -/

namespace Sys2Proof.Laws.EncodesToRow

/-- The access word of a well-formed operation, if it has one, belongs to the opcode-map row of its mnemonic
(spec/30_encoding.md R86). -/
def Statement (i : Instr) : Prop :=
  ∀ w, encode i = some w → i.wf = true → ∃ row ∈ exactRows ++ defaultRows, row.mnemonic = i.mnemonic ∧ row.covers w = true

/-- A row whose MATCH and MASK spare WDATA covers a request's word by its 17 bits of DIR, SIZE, OFF. -/
theorem covers_toAw (n : String) (q m : BitVec 17) (r : Request)
    (h : (BitVec.ofBool r.dir.bit ++ r.size ++ r.off : BitVec 17) &&& m = q) :
    (OpcodeRow.mk n (q ++ 0#32) (m ++ 0#32)).covers r.toAw = true := by
  subst h
  exact beq_iff_eq.mpr (AccessWord.append_and _ _ _)

theorem rdCr1 : Statement .rdCr1 := by
  rintro w ⟨rfl⟩ -
  exact ⟨⟨"RD_CR1", 0x0400000000000#49, 0x1FFFF00000000#49⟩, by simp [exactRows], rfl, by decide⟩

theorem rdCr2 : Statement .rdCr2 := by
  rintro w ⟨rfl⟩ -
  exact ⟨⟨"RD_CR2", 0x0400400000000#49, 0x1FFFF00000000#49⟩, by simp [exactRows], rfl, by decide⟩

theorem rdSr : Statement .rdSr := by
  rintro w ⟨rfl⟩ -
  exact ⟨⟨"RD_SR", 0x0400800000000#49, 0x1FFFF00000000#49⟩, by simp [exactRows], rfl, by decide⟩

theorem rdDr : Statement .rdDr := by
  rintro w ⟨rfl⟩ -
  exact ⟨⟨"RD_DR", 0x0400C00000000#49, 0x1FFFF00000000#49⟩, by simp [exactRows], rfl, by decide⟩

theorem rdCscr : Statement .rdCscr := by
  rintro w ⟨rfl⟩ -
  exact ⟨⟨"RD_CSCR", 0x0401000000000#49, 0x1FFFF00000000#49⟩, by simp [exactRows], rfl, by decide⟩

/-- The DIR and SIZE bits of a request's word, whatever its offset. -/
theorem dirSize_and (b : Bool) (z : SizeField) (o : Offset) :
    (BitVec.ofBool b ++ z ++ o : BitVec 17) &&& 0x1F000 = (BitVec.ofBool b ++ z ++ (0 : Offset) : BitVec 17) := by
  have hm : (0x1F000 : BitVec 17) = (BitVec.ofBool true ++ (0xF : SizeField) ++ (0 : Offset) : BitVec 17) := by decide
  rw [hm]
  apply BitVec.eq_of_getLsbD_eq
  intro i hi
  simp only [BitVec.getLsbD_and, Request.prefix_getLsbD]
  split_ifs with h1 h2
  · simp
  · have : i - 12 = 0 ∨ i - 12 = 1 ∨ i - 12 = 2 ∨ i - 12 = 3 := by omega
    rcases this with h | h | h | h <;> simp [h]
  · have : i - 12 - 4 = 0 := by omega
    simp [this]

theorem rdInvalid (off : Offset) : Statement (.rdInvalid off) := by
  rintro w ⟨rfl⟩ -
  exact ⟨⟨"RD_INVALID", 0x0400000000000#49, 0x1F00000000000#49⟩, by simp [defaultRows], rfl,
    covers_toAw "RD_INVALID" 0x04000 0x1F000 _ (by rw [dirSize_and]; simp only [readRequest, Dir.bit]; decide)⟩

theorem wrCr1 (v : Word) : Statement (.wrCr1 v) := by
  rintro w ⟨rfl⟩ -
  exact ⟨⟨"WR_CR1", 0x1400000000000#49, 0x1FFFF00000000#49⟩, by simp [exactRows], rfl,
    covers_toAw "WR_CR1" 0x14000 0x1FFFF _ (by simp only [writeRequest, Dir.bit]; decide)⟩

theorem wrCr2 (v : Word) : Statement (.wrCr2 v) := by
  rintro w ⟨rfl⟩ -
  exact ⟨⟨"WR_CR2", 0x1400400000000#49, 0x1FFFF00000000#49⟩, by simp [exactRows], rfl,
    covers_toAw "WR_CR2" 0x14004 0x1FFFF _ (by simp only [writeRequest, Dir.bit]; decide)⟩

theorem wrSr (v : Word) : Statement (.wrSr v) := by
  rintro w ⟨rfl⟩ -
  exact ⟨⟨"WR_SR", 0x1400800000000#49, 0x1FFFF00000000#49⟩, by simp [exactRows], rfl,
    covers_toAw "WR_SR" 0x14008 0x1FFFF _ (by simp only [writeRequest, Dir.bit]; decide)⟩

theorem wrDr (v : Word) : Statement (.wrDr v) := by
  rintro w ⟨rfl⟩ -
  exact ⟨⟨"WR_DR", 0x1400C00000000#49, 0x1FFFF00000000#49⟩, by simp [exactRows], rfl,
    covers_toAw "WR_DR" 0x1400C 0x1FFFF _ (by simp only [writeRequest, Dir.bit]; decide)⟩

theorem wrCscr (v : Word) : Statement (.wrCscr v) := by
  rintro w ⟨rfl⟩ -
  exact ⟨⟨"WR_CSCR", 0x1401000000000#49, 0x1FFFF00000000#49⟩, by simp [exactRows], rfl,
    covers_toAw "WR_CSCR" 0x14010 0x1FFFF _ (by simp only [writeRequest, Dir.bit]; decide)⟩

theorem wrInvalid (off : Offset) (v : Word) : Statement (.wrInvalid off v) := by
  rintro w ⟨rfl⟩ -
  exact ⟨⟨"WR_INVALID", 0x1400000000000#49, 0x1F00000000000#49⟩, by simp [defaultRows], rfl,
    covers_toAw "WR_INVALID" 0x14000 0x1F000 _ (by rw [dirSize_and]; simp only [writeRequest, Dir.bit]; decide)⟩

theorem reset : Statement .reset := by
  intro w h
  cases h

end Sys2Proof.Laws.EncodesToRow
end

