-- ==== Sys2Proof/Laws/Step.lean ====
section
/-! SUPPORT. What a step can do, said once. -/

namespace Sys2Proof.Machine

/-- An operation that decoding gives is well formed and is no reset. -/
theorem wf_of_decodeRequest {r : Request} {i : Instr} (h : decodeRequest r = .ok i) : i.wf = true ∧ i ≠ .reset := by
  have hs := size_of_decodeRequest h
  simp only [decodeRequest, hs, if_true, Except.ok.injEq] at h
  subst h
  cases hd : r.dir <;> rcases hr : regAt r.off with _ | reg <;> try cases reg
  all_goals simp [readOp, writeOp, Instr.wf, invalidOffset, hr]

/-- A request at the port is run if it has size 4 and refused if not. -/
theorem accept_cases (r : Request) (s : State) :
    (r.size = 4#4 ∧ ∃ i, decodeRequest r = .ok i ∧ accept r s = .run i s) ∨
      (r.size ≠ 4#4 ∧ accept r s = .refuse .unsupportedSize) := by
  by_cases hs : r.size = 4#4
  · refine .inl ⟨hs, _, if_pos hs, ?_⟩
    simp only [accept, decodeRequest, hs, if_true]
  · exact .inr ⟨hs, by simp only [accept, decodeRequest_otherSize hs]⟩

/-- Every step that answers a next state is the idle step, an access that is not the block's, or one well-formed
operation from the state without its event. -/
theorem step_cases {s t : State} (h : step s = .next t) :
    (s.inbox = [] ∧ t = s) ∨
      (∃ p rest, s.inbox = .platform p :: rest ∧ route p = none ∧ t = { s with inbox := rest, rdata := none }) ∨
      (∃ e rest i, s.inbox = e :: rest ∧ i.wf = true ∧ (e = .reset ↔ i = .reset) ∧
        exec i { s with inbox := rest } = .next t) := by
  unfold step fetch at h
  rcases hq : s.inbox with _ | ⟨e, rest⟩
  · simp only [hq, Host.Outcome.next.injEq] at h
    exact .inl ⟨rfl, h.symm⟩
  · simp only [hq] at h
    cases e with
    | access r =>
      simp only [serve] at h
      rcases accept_cases r { s with inbox := rest } with ⟨-, i, hi, ha⟩ | ⟨-, ha⟩ <;> rw [ha] at h
      · have hw := wf_of_decodeRequest hi
        exact .inr (.inr ⟨_, rest, i, rfl, hw.1, by simp [hw.2], h⟩)
      · cases h
    | platform p =>
      rcases hp : route p with _ | r <;> simp only [serve, hp] at h
      · exact .inr (.inl ⟨p, rest, rfl, hp, (Host.Outcome.next.inj h).symm⟩)
      · rcases accept_cases r { s with inbox := rest } with ⟨-, i, hi, ha⟩ | ⟨-, ha⟩ <;> rw [ha] at h
        · have hw := wf_of_decodeRequest hi
          exact .inr (.inr ⟨_, rest, i, rfl, hw.1, by simp [hw.2], h⟩)
        · cases h
    | reset => exact .inr (.inr ⟨_, rest, .reset, rfl, rfl, by simp, h⟩)
    | codeFetch o => cases h
    | restore => cases h

/-- The routed request of an access keeps its direction, size and value; its offset is its place in the window. -/
theorem route_eq_some {p : PlatformAccess} {r : Request} (h : route p = some r) :
    Config.pBase ≤ p.addr ∧ p.addr < Config.pBase + Config.pWindow ∧ r.dir = p.dir ∧ r.size = p.size ∧
      r.wdata = p.wdata ∧ r.off = BitVec.ofNat 12 (p.addr - Config.pBase) := by
  unfold route at h
  split_ifs at h with hin
  cases h
  exact ⟨hin.1, hin.2, rfl, rfl, rfl, rfl⟩

/-- The bounds of the register window. -/
theorem pWindow_bounds : 0x14 ≤ Config.pWindow ∧ Config.pWindow ≤ 0x1000 := by
  have := Config.pWindowExcess.isLt
  unfold Config.pWindow
  omega

end Sys2Proof.Machine
end

