-- ==== Sys2Proof/Tests/Slice0.lean ====
section
/-! SUPPORT. Small tests: the ill-formed terms that WellFormed refuses, words written out from the spec's encodings,
single steps with the results of spec/95_test_vectors.md, and for every statement with hypotheses a concrete case that
meets them. -/

namespace Sys2Proof.Tests

open Sys2Proof.Machine

/-! WellFormed refuses an invalid-address access at each of the five register offsets (30_encoding.md R72). -/

theorem test_wf_refuses_rdInvalid_at_registers :
    [0x000, 0x004, 0x008, 0x00C, 0x010].map (fun o => Instr.wf (.rdInvalid o)) = [false, false, false, false, false] := by
  decide

theorem test_wf_refuses_wrInvalid_at_registers :
    [0x000, 0x004, 0x008, 0x00C, 0x010].map (fun o => Instr.wf (.wrInvalid o 0x1)) = [false, false, false, false, false] := by
  decide

/-- Misaligned offsets and those above the map are well formed (20_memory.md R55). -/
theorem test_wf_admits_invalid_offsets :
    [0x001, 0x00D, 0x00F, 0x011, 0x014, 0xFFC].map (fun o => Instr.wf (.rdInvalid o)) =
      [true, true, true, true, true, true] := by
  decide

/-! Words written out from the encodings of 40_register_read.md and 41_register_write.md, `D_S_OOO_WWWWWWWW`. -/

theorem test_decode_rdCr1 : decode 0x0400000000000#49 = .ok .rdCr1 := by decide
theorem test_decode_rdCr2 : decode 0x0400400000000#49 = .ok .rdCr2 := by decide
theorem test_decode_rdSr : decode 0x0400800000000#49 = .ok .rdSr := by decide
theorem test_decode_rdDr_ignores_wdata : decode 0x0400CDEADBEEF#49 = .ok .rdDr := by decide
theorem test_decode_rdCscr : decode 0x0401000000000#49 = .ok .rdCscr := by decide
theorem test_decode_rdInvalid : decode 0x0400200000000#49 = .ok (.rdInvalid 0x002) := by decide
theorem test_decode_rdInvalid_top : decode 0x04FFC00000000#49 = .ok (.rdInvalid 0xFFC) := by decide
theorem test_decode_wrCr1 : decode 0x1400000000044#49 = .ok (.wrCr1 0x44) := by decide
theorem test_decode_wrCr2 : decode 0x14004000000E0#49 = .ok (.wrCr2 0xE0) := by decide
theorem test_decode_wrSr : decode 0x14008FFFFFFFF#49 = .ok (.wrSr 0xFFFFFFFF) := by decide
theorem test_decode_wrDr : decode 0x1400C000000AB#49 = .ok (.wrDr 0xAB) := by decide
theorem test_decode_wrCscr : decode 0x1401000000011#49 = .ok (.wrCscr 0x11) := by decide
theorem test_decode_wrInvalid : decode 0x1401800000001#49 = .ok (.wrInvalid 0x018 0x1) := by decide

/-- Sizes 1, 2, 8 and 0 are refused (95_test_vectors.md section 2.1). -/
theorem test_decode_refuses_sizes :
    [0x0100C00000000#49, 0x1200000000044#49, 0x1800C00000000#49, 0x0000000000000#49].map decode =
      List.replicate 4 (.error .unsupportedSize) := by
  decide

/-- The table's words and the encoder agree, RESET has none (30_encoding.md R86). -/
theorem test_encode :
    encode .rdDr = some 0x0400C00000000#49 ∧ encode (.wrInvalid 0x011 0x11) = some 0x1401100000011#49 ∧
      encode .reset = none := by
  decide

theorem test_decodeTableWord :
    decodeTableWord 56 0x1400C000000AB = some (.wrDr 0xAB) ∧ decodeTableWord 49 0x0401000000000 = some .rdCscr ∧
      decodeTableWord 56 0x2400000000000 = none := by
  decide

/-! States of 95_test_vectors.md section 0, with data_out written 0 where the spec leaves it open. -/

/-- The state that an outcome answers, if it is a next state. -/
def nextOf (o : Host.Outcome State Fault Refusal) : Option State :=
  match o with
  | .next s => some s
  | .fault _ => none
  | .refused _ => none

/-- The armed state `A`, with what CR2 and the flags hold, the interrupt line, and the transport's next answers. -/
def armed (cr2 : Word) (rxne ovr irq : Bool) (din : Byte) (script : List Byte) : State :=
  { State.reset with
    block := { Block.reset with
      control1 := 0x44, spiEnabled := true, masterMode := true, control2 := cr2
      status := { rxne := rxne, txe := true, udr := false, ovr := ovr, bsy := false }
      dataIn := din, csControl := 0x11, cs0Enabled := true, cs0Active := true, csN0 := false, irq := irq }
    xchgScript := script }

/-- What the tests look at after an operation: SR value, data_in, cs_n[0], cs_n[1], irq, the value returned. -/
structure View where
  sr : Word
  din : Byte
  csN0 : Bool
  csN1 : Bool
  irq : Bool
  rdata : Option Word
  deriving DecidableEq, Repr

/-- That view of the state after an operation. -/
def shows (i : Instr) (s : State) : Option View :=
  (nextOf (exec i s)).map fun t =>
    ⟨t.block.status.value, t.block.dataIn, t.block.csN0, t.block.csN1, t.block.irq, t.rdata⟩

/-! Register reads (95_test_vectors.md section 2.2). -/

/-- V4: all 32 bits of CR2 come back and irq stays 1. -/
theorem test_rdCr2 : shows .rdCr2 (armed 0xDEADBEEF false false true 0x00 []) =
    some ⟨0x02, 0x00, false, true, true, some 0xDEADBEEF⟩ := by decide

theorem test_rdCr1 : shows .rdCr1 (armed 0x00 false false false 0x00 []) =
    some ⟨0x02, 0x00, false, true, false, some 0x44⟩ := by decide

/-- V7: SR reads 0x0B and no flag is cleared. -/
theorem test_rdSr : shows .rdSr (armed 0x00 true true false 0x20 []) =
    some ⟨0x0B, 0x20, false, true, false, some 0x0B⟩ := by decide

/-- V10: an overrun interrupt is acknowledged by the DR read. -/
theorem test_rdDr_acknowledges : shows .rdDr (armed 0x20 true true true 0x20 []) =
    some ⟨0x02, 0x20, false, true, false, some 0x20⟩ := by decide

/-- V11: with TXEIE the interrupt stays asserted. -/
theorem test_rdDr_txeie : shows .rdDr (armed 0x80 true true true 0xFF []) =
    some ⟨0x02, 0xFF, false, true, true, some 0xFF⟩ := by decide

theorem test_rdCscr : shows .rdCscr (armed 0x00 false false false 0x00 []) =
    some ⟨0x02, 0x00, false, true, false, some 0x11⟩ := by decide

/-- V17: an access at 0x00D is no DR read; RXNE stays, one report is made. -/
theorem test_rdInvalid : shows (.rdInvalid 0x00D) (armed 0x00 true false false 0x77 []) =
      some ⟨0x03, 0x77, false, true, false, some 0x00⟩ ∧
    (nextOf (exec (.rdInvalid 0x00D) (armed 0x00 true false false 0x77 []))).map State.diag =
      some [{ dir := .read, off := 0x00D }] := by decide

/-! Register writes (95_test_vectors.md section 2.3). -/

/-- Every bit but 6 and 2 decodes to neither flag; bits 6 and 2 to both. -/
theorem test_wrCr1 :
    ((nextOf (exec (.wrCr1 0xFFFFFFBB) State.reset)).map fun t =>
      (t.block.control1, t.block.spiEnabled, t.block.masterMode)) = some (0xFFFFFFBB, false, false) ∧
    ((nextOf (exec (.wrCr1 0x00000040) State.reset)).map fun t => (t.block.spiEnabled, t.block.masterMode)) =
      some (true, false) := by decide

/-- E6: enabling TXEIE asserts the interrupt at once. -/
theorem test_wrCr2_txeie : shows (.wrCr2 0x80) State.reset = some ⟨0x02, 0x00, true, true, true, none⟩ := by decide

/-- An enable of bits 7:5 all 0 asserts nothing, and clearing the enables deasserts; SR stays. -/
theorem test_wrCr2_deasserts : shows (.wrCr2 0xFFFFFF1F) (armed 0x20 true true true 0x20 []) =
    some ⟨0x0B, 0x20, false, true, false, none⟩ := by decide

theorem test_wrSr : shows (.wrSr 0x00000000) (armed 0x00 true true false 0x20 []) =
    some ⟨0x0B, 0x20, false, true, false, none⟩ := by decide

/-- A: `WR DR, 0x12345688 ; xchg 0xC3` exchanges 0x88 and receives 0xC3. -/
theorem test_wrDr_permitted :
    shows (.wrDr 0x12345688) (armed 0x00 false false false 0x00 [0xC3]) = some ⟨0x03, 0xC3, false, true, false, none⟩ ∧
    (nextOf (exec (.wrDr 0x12345688) (armed 0x00 false false false 0x00 [0xC3]))).map
      (fun t => (t.block.dataOut, t.exchanged, t.xchgScript)) = some (0x88, [0x88], []) := by decide

/-- T8: a second transfer before the read sets OVR, and ERRIE then asserts the interrupt. -/
theorem test_wrDr_overrun : shows (.wrDr 0x06) (armed 0x20 true false false 0xA5 [0xA6]) =
    some ⟨0x0B, 0xA6, false, true, true, none⟩ := by decide

/-- E2: a DR write from reset stores the byte and sends none. -/
theorem test_wrDr_denied :
    (nextOf (exec (.wrDr 0xAB) State.reset)).map
      (fun t => (t.block.status.value, t.block.dataIn, t.block.dataOut, t.exchanged)) = some (0x02, 0x00, 0xAB, []) := by
  decide

/-- E2: both lines selected permit no transfer (exclusive or). -/
theorem test_wrDr_both_selected :
    let s := armed 0x00 false false false 0x00 [0xC3]
    (nextOf (exec (.wrDr 0xAB) { s with block := { s.block with cs1Enabled := true, cs1Active := true } })).map
      (fun t => (t.block.status.value, t.exchanged)) = some (0x02, []) := by decide

/-- The mapper table of section 2.5: cs_n[0], cs_n[1] after each CSCR value. -/
theorem test_wrCscr_lines :
    [0x00, 0x01, 0x10, 0x11, 0x22, 0x12, 0x33, 0xFFFFFFCC, 0xFFFFFFD1].map
      (fun v => (nextOf (exec (.wrCscr v) State.reset)).map fun t => (t.block.csN0, t.block.csN1)) =
      [some (true, true), some (true, true), some (true, true), some (false, true), some (true, false),
        some (true, true), some (false, false), some (true, true), some (false, true)] := by decide

/-- The write at 0x00D does not reach DR. -/
theorem test_wrInvalid :
    (nextOf (exec (.wrInvalid 0x00D 0xFF) (armed 0x00 false false false 0x00 [0xC3]))).map
      (fun t => (t.block.dataOut, t.exchanged, t.diag)) = some (0x00, [], [{ dir := .write, off := 0x00D }]) := by decide

/-! Reset (95_test_vectors.md section 2.8), under both values of the open parameter. -/

/-- The last row of the table: the state before. -/
def busyBlock : Block :=
  { control1 := 0xFFFFFFFF, spiEnabled := true, masterMode := true, control2 := 0xFFFFFFFF
    status := { rxne := true, txe := true, udr := false, ovr := true, bsy := false }
    dataOut := 0x42, dataIn := 0x24, csControl := 0xFFFFFFD1
    cs0Enabled := true, cs1Enabled := false, cs0Active := true, cs1Active := false
    csN0 := false, csN1 := true, irq := true }

theorem test_reset_zero : busyBlock.resetWith .zero = { Block.reset with dataOut := 0x42 } := by decide

theorem test_reset_retain :
    busyBlock.resetWith .retain = { Block.reset with dataOut := 0x42, csControl := 0xFFFFFFD1 } := by decide

theorem test_reset_lines :
    (nextOf (exec .reset { State.reset with block := busyBlock })).map
      (fun t => (t.block.status.value, t.block.csN0, t.block.csN1, t.block.irq)) = some (0x02, true, true, false) := by
  decide

/-! The interrupt encoder's table (43_outputs.md R135): status 0x02, 0x03, 0x0B against CR2. -/

theorem test_irqFn :
    [0x00, 0x20, 0x40, 0x80, 0x60, 0xE0].map (fun cr2 =>
      [(false, false), (true, false), (true, true)].map fun f =>
        irqFn cr2 { rxne := f.1, txe := true, udr := false, ovr := f.2, bsy := false }) =
      [[false, false, false], [false, false, true], [false, true, true], [true, true, true], [false, true, true],
        [true, true, true]] := by decide

/-! One step. -/

theorem test_step_runs_placed_word :
    (nextOf (step (State.reset.withFetchWord 56 0x14004000000E0))).map (fun t => (t.block.control2, t.block.irq, t.inbox)) =
      some (0xE0, true, []) := by decide

theorem test_step_refuses_size :
    (match step { State.reset with inbox := [.access (Request.ofAw 0x0100C00000000#49)] } with
      | .refused r => some r
      | .next _ => none
      | .fault _ => none) = some .unsupportedSize := by decide

/-! Cases that meet the hypotheses of the statements. -/

/-- A state that waits for the events given. -/
def waiting (es : List PortEvent) : State := { State.reset with inbox := es }

theorem witness_DecodeOfEncodeReturnsInstruction :
    (Instr.wrInvalid 0xFFF 0xFFFFFFFF).wf = true ∧ Instr.wrInvalid 0xFFF 0xFFFFFFFF ≠ .reset := by decide

theorem witness_EncodeOfDecodeReturnsWord :
    decode 0x0400CDEADBEEF#49 = .ok .rdDr ∧ decode 0x1401100000011#49 = .ok (.wrInvalid 0x011 0x11) := by decide

theorem witness_DecodeReadsAccessWordFields : 0 < 2 ^ 49 ∧ 2 ^ 49 - 1 < 2 ^ 49 := by decide

theorem witness_StepRunsDecodedOperation :
    (waiting [.access (readRequest 0x00C)]).inbox = [.access (readRequest 0x00C)] ∧
      decodeRequest (readRequest 0x00C) = .ok .rdDr ∧ (waiting [.reset]).inbox = [.reset] ∧
      decodeTableWord 56 0x0400C00000000 = some .rdDr := by decide

theorem witness_StepRefusesByName :
    (waiting [.access { readRequest 0x00C with size := 1 }]).inbox = [.access { readRequest 0x00C with size := 1 }] ∧
      ({ readRequest 0x00C with size := 1 } : Request).size ≠ 4 ∧
      (waiting [.codeFetch 0x000]).inbox = [.codeFetch 0x000] ∧ (waiting [.restore]).inbox = [.restore] := by decide

theorem witness_StepWithNothingPresentedIsIdle : State.reset.inbox = [] := rfl

/-- The first and the last address of the window are inside it, the address after it is outside. -/
theorem witness_PlatformAccessIsRoutedByWindow :
    (∀ a, (waiting [.platform { dir := .read, size := 4, addr := a, wdata := 0 }]).inbox =
      [.platform { dir := .read, size := 4, addr := a, wdata := 0 }]) ∧
    (Config.pBase ≤ Config.pBase ∧ Config.pBase < Config.pBase + Config.pWindow) ∧
    (Config.pBase ≤ Config.pBase + Config.pWindow - 1 ∧
      Config.pBase + Config.pWindow - 1 < Config.pBase + Config.pWindow) ∧
    (Config.pBase + Config.pWindow < Config.pBase ∨ Config.pBase + Config.pWindow ≤ Config.pBase + Config.pWindow) := by
  have h := pWindow_bounds
  exact ⟨fun _ => rfl, ⟨le_refl _, by omega⟩, ⟨by omega, by omega⟩, .inr (le_refl _)⟩

theorem witness_StepAnswersExactlyServedEvents : (waiting [.restore]).inbox = .restore :: [] := rfl

theorem witness_RunOverServedEventsNeverStops :
    ∀ e ∈ (waiting [.access (readRequest 0x00C), .reset]).inbox, Served e := by
  intro e he
  simp only [waiting, List.mem_cons, List.not_mem_nil, or_false] at he
  rcases he with rfl | rfl
  · exact rfl
  · trivial

theorem witness_RequestsTakeEffectInPortOrder :
    (∀ i ∈ [Instr.wrCr1 0x44, .wrCscr 0x11, .wrDr 0xAB], i.wf = true) ∧
      ∃ t, execAll [.wrCr1 0x44, .wrCscr 0x11, .wrDr 0xAB] State.reset = .next t :=
  ⟨by decide, _, rfl⟩

theorem witness_ControlReadsReturnRawRegister : ∃ t, exec .reset (armed 0x20 true true true 0x20 []) = .next t := ⟨_, rfl⟩

theorem witness_ChipSelectReadReturnsRawRegister : ∃ t, exec .reset (armed 0x00 false false false 0x00 []) = .next t :=
  ⟨_, rfl⟩

/-- 0x014 is the first offset after the map, 0x00D a misaligned one. -/
theorem witness_InvalidAccessesOnlyReport :
    ∀ off ∈ [(0x014 : Offset), 0x00D, 0xFFF],
      off ≠ 0x000 ∧ off ≠ 0x004 ∧ off ≠ 0x008 ∧ off ≠ 0x00C ∧ off ≠ 0x010 := by decide

theorem witness_RepeatedOperationChangesNothingMore :
    (∀ v, Instr.rdDr ≠ .wrDr v) ∧ (∀ off, Instr.rdDr ≠ .rdInvalid off) ∧ (∀ off v, Instr.rdDr ≠ .wrInvalid off v) ∧
      ∃ t, exec .rdDr (armed 0x20 true true true 0x20 []) = .next t :=
  ⟨by simp, by simp, by simp, _, rfl⟩

/-- Denied (nothing enabled), permitted with a settled answer, permitted with a free one. -/
theorem witness_DataWriteStoresByteAndTransfersIfPermitted :
    State.reset.block.permitted = false ∧ (armed 0 false false false 0 [0xC3]).block.permitted = true ∧
      (armed 0 false false false 0 [0xC3]).xchgScript = 0xC3 :: [] ∧
      (armed 0 false false false 0 []).xchgScript = [] := by decide

theorem witness_TransferNetEffectOnStatusValue :
    (armed 0 false false false 0 []).block.permitted = true ∧ (armed 0 false false false 0 []).block.status.value = 0x02 ∧
      (armed 0 true false false 0 []).block.permitted = true ∧ (armed 0 true false false 0 []).block.status.value = 0x03 ∧
      (armed 0 true true false 0 []).block.permitted = true ∧ (armed 0 true true false 0 []).block.status.value = 0x0B := by
  decide

theorem witness_OverrunStaysUntilDataReadOrReset :
    (armed 0 true false false 0xA5 []).block.permitted = true ∧
      (armed 0 true false false 0xA5 []).block.status.rxne = true ∧
      (∀ i ∈ [Instr.wrDr 0x06, .rdSr, .wrSr 0x00], i ≠ .rdDr ∧ i ≠ .reset) ∧
      (armed 0 true true false 0xA5 []).block.status.ovr = true := by decide

/-- One operation of each clause: a transfer, a DR read, a reset, an operation that writes no flag, and UDR set. -/
theorem witness_StatusFlagsFollowTheirWriters :
    (∃ t, exec (.wrDr 0xAB) (armed 0 true false false 0 []) = .next t) ∧
      exchangedBy (.wrDr 0xAB) (armed 0 true false false 0 []).block ≠ [] ∧
      (∃ t, exec .rdDr State.reset = .next t) ∧ (∃ t, exec .reset State.reset = .next t) ∧
      exchangedBy .rdSr State.reset.block = [] ∧ Instr.rdSr ≠ .rdDr ∧ Instr.rdSr ≠ .reset ∧
      ∃ t, exec .rdSr { State.reset with block := { Block.reset with status := { Status.txeOnly with udr := true } } } =
        .next t ∧ t.block.status.udr = true :=
  ⟨⟨_, rfl⟩, by decide, ⟨_, rfl⟩, ⟨_, rfl⟩, rfl, by decide, by decide, _, rfl, rfl⟩

theorem witness_InterruptLineIsDrivenAtItsPoints :
    (∃ t, exec (.wrCr2 0x80) State.reset = .next t) ∧ (∃ v, Instr.wrCr2 0x80 = .wrCr2 v) ∧
      (∃ t, exec (.wrDr 0xAB) State.reset = .next t) ∧ (∀ v, Instr.wrDr 0xAB ≠ .wrCr2 v) ∧
      exchangedBy (.wrDr 0xAB) State.reset.block = [] ∧ Instr.wrDr 0xAB ≠ .rdDr ∧ Instr.wrDr 0xAB ≠ .reset :=
  ⟨⟨_, rfl⟩, ⟨_, rfl⟩, ⟨_, rfl⟩, by simp, by decide, by decide, by decide⟩

theorem witness_ChipSelectLinesAreDrivenAtTheirPoints :
    (∃ t, exec (.wrCscr 0x33) State.reset = .next t) ∧ (∃ v, Instr.wrCscr 0x33 = .wrCscr v) ∧
      (∃ t, exec (.wrDr 0xAB) (armed 0 false false false 0 []) = .next t) ∧ (∀ v, Instr.wrDr 0xAB ≠ .wrCscr v) ∧
      Instr.wrDr 0xAB ≠ .reset :=
  ⟨⟨_, rfl⟩, ⟨_, rfl⟩, ⟨_, rfl⟩, by simp, by decide⟩

theorem witness_ReportsAreTheInvalidAccesses :
    (∃ t, exec (.rdInvalid 0x014) State.reset = .next t) ∧ (∃ t, exec (.wrInvalid 0x014 0x1) State.reset = .next t) ∧
      (∃ t, exec (.wrSr 0x1) State.reset = .next t) ∧ (∀ off, Instr.wrSr 0x1 ≠ .rdInvalid off) ∧
      (∀ off v, Instr.wrSr 0x1 ≠ .wrInvalid off v) :=
  ⟨⟨_, rfl⟩, ⟨_, rfl⟩, ⟨_, rfl⟩, by simp, by simp⟩

theorem witness_OnlyNamedOperationsWriteAnElement :
    (∃ t, exec .rdDr (armed 0 true true false 0x20 []) = .next t) ∧ (∀ v, Instr.rdDr ≠ .wrCr1 v) ∧
      (∀ v, Instr.rdDr ≠ .wrCr2 v) ∧ (∀ v, Instr.rdDr ≠ .wrDr v) ∧ (∀ v, Instr.rdDr ≠ .wrCscr v) ∧
      exchangedBy .rdDr (armed 0 true true false 0x20 []).block = [] ∧ Instr.rdDr ≠ .reset :=
  ⟨⟨_, rfl⟩, by simp, by simp, by simp, by simp, rfl, by decide⟩

/-- The two runs may go on (a DR write) and may be refused (a restore). -/
theorem witness_DataOutCannotBeObserved :
    SameButDataOut (waiting []) { waiting [] with block := { Block.reset with dataOut := 0xFF } } ∧
      (∃ t, Host.Core.run core 1 (waiting [.access (writeRequest 0x00C 0xAB)]) = .next t) ∧
      Host.Core.run core 1 (waiting [.restore]) = .refused .snapshotRestore :=
  ⟨rfl, ⟨_, rfl⟩, rfl⟩

/-- The armed state meets the invariant, with a byte pending and one lost, and permits a transfer. -/
theorem armed_inv : (armed 0x20 true true true 0x20 []).block.Inv where
  txe := rfl
  bsy := rfl
  udr := rfl
  ovr := fun _ => rfl
  spiEnabled := by decide
  masterMode := by decide
  csFlags := .inl ⟨by decide, by decide, by decide, by decide⟩
  csN0 := rfl
  csN1 := rfl
  irq := by decide

theorem witness_EveryStepKeepsInvariant :
    ({ armed 0x20 true true true 0x20 [] with inbox := [.access (readRequest 0x00C)] } : State).block.Inv ∧
      ∃ t, step { armed 0x20 true true true 0x20 [] with inbox := [.access (readRequest 0x00C)] } = .next t :=
  ⟨armed_inv, _, rfl⟩

/-- A request is presented after reset and served. -/
theorem witness_Reachable : ∃ s, Reachable s ∧ s.block.control2 = 0xE0 :=
  ⟨_, .step (s := waiting [.access (writeRequest 0x004 0xE0)]) (.present _ .reset) rfl, rfl⟩

theorem witness_ChipSelectFlagsAgreeWithRawRegister :
    Instr.rdDr ≠ .reset ∧ (armed 0x20 true true true 0x20 []).block.CsAgrees :=
  ⟨by decide, by decide, by decide, by decide, by decide⟩

theorem witness_TransferHasExactlyOneLineAsserted :
    (armed 0x20 true true true 0x20 []).block.Inv ∧ (armed 0x20 true true true 0x20 []).block.permitted = true :=
  ⟨armed_inv, by decide⟩

end Sys2Proof.Tests
end

section
/-! The invariant of the observation points (10_state.md section 8): the state after reset meets it, each update of the
controller that an operation is made of keeps it, and so does every step of every run. -/

namespace Sys2Proof.Machine

/-! How a completed access leaves the controller -/

/-- Returning a value to the requester leaves the controller alone. -/
theorem block_of_returnData {v : Word} {s t : State} (h : returnData v s = .next t) : t.block = s.block := by
  rw [returnData_eq_next.mp h]

/-- Completing without a value leaves the controller alone. -/
theorem block_of_complete {s t : State} (h : complete s = .next t) : t.block = s.block := by
  rw [complete_eq_next.mp h]

/-! The chip-select flags depend on the chip-select elements alone -/

/-- Agreement of the decoded flags with the raw value carries over to a controller with the same flags and value. -/
theorem Block.CsAgrees.congr {b c : Block} (h : b.CsAgrees) (hraw : c.csControl = b.csControl := by rfl)
    (he0 : c.cs0Enabled = b.cs0Enabled := by rfl) (he1 : c.cs1Enabled = b.cs1Enabled := by rfl)
    (ha0 : c.cs0Active = b.cs0Active := by rfl) (ha1 : c.cs1Active = b.cs1Active := by rfl) : c.CsAgrees where
  enabled0 := by rw [he0, hraw, h.enabled0]
  enabled1 := by rw [he1, hraw, h.enabled1]
  active0 := by rw [ha0, hraw, h.active0]
  active1 := by rw [ha1, hraw, h.active1]

/-- Cleared flags carry over to a controller with the same flags. -/
theorem Block.CsCleared.congr {b c : Block} (h : b.CsCleared)
    (he0 : c.cs0Enabled = b.cs0Enabled := by rfl) (he1 : c.cs1Enabled = b.cs1Enabled := by rfl)
    (ha0 : c.cs0Active = b.cs0Active := by rfl) (ha1 : c.cs1Active = b.cs1Active := by rfl) : c.CsCleared :=
  ⟨he0.trans h.enabled0, he1.trans h.enabled1, ha0.trans h.active0, ha1.trans h.active1⟩

/-- After a CSCR write the decoded flags are those of the value written (41_register_write.md R104). -/
theorem Block.csAgrees_storeCscr (v : Word) (b : Block) : (b.storeCscr v).CsAgrees := ⟨rfl, rfl, rfl, rfl⟩

/-- Reset clears the four flags under both values of the open parameter. -/
theorem Block.csCleared_resetWith (p : ResetCsctrl) (b : Block) : (b.resetWith p).CsCleared := ⟨rfl, rfl, rfl, rfl⟩

/-- Under ZERO reset clears the raw value as well, so the flags agree with it. -/
theorem Block.csAgrees_resetWith_zero (b : Block) : (b.resetWith .zero).CsAgrees where
  enabled0 := BitVec.getLsbD_zero.symm
  enabled1 := BitVec.getLsbD_zero.symm
  active0 := BitVec.getLsbD_zero.symm
  active1 := BitVec.getLsbD_zero.symm

/-! Each update of the controller keeps the invariant -/

/-- The state after reset meets the invariant (70_reset_and_hazards.md R161). -/
theorem Block.inv_reset : Block.reset.Inv where
  txe := rfl
  bsy := rfl
  udr := rfl
  ovr := nofun
  spiEnabled := rfl
  masterMode := rfl
  csFlags := .inl ⟨rfl, rfl, rfl, rfl⟩
  csN0 := rfl
  csN1 := rfl
  irq := rfl

namespace Block.Inv

variable {b : Block}

/-- A CR1 write decodes both flags from the value it stores. -/
theorem storeCr1 (h : b.Inv) (v : Word) : (b.storeCr1 v).Inv :=
  { h with
    spiEnabled := rfl
    masterMode := rfl
    csFlags := h.csFlags.imp .congr (.imp_right .congr) }

/-- A CR2 write re-derives the interrupt line. -/
theorem storeCr2_irqUpdate (h : b.Inv) (v : Word) : (b.storeCr2 v).irqUpdate.Inv :=
  { h with
    csFlags := h.csFlags.imp .congr (.imp_right .congr)
    irq := rfl }

/-- A DR read clears OVR together with RXNE, and re-derives the interrupt line. -/
theorem acknowledge_irqUpdate (h : b.Inv) : b.acknowledge.irqUpdate.Inv :=
  { h with
    udr := rfl
    ovr := nofun
    csFlags := h.csFlags.imp .congr (.imp_right .congr)
    irq := rfl }

/-- The queued byte is in no clause of the invariant. -/
theorem queueByte (h : b.Inv) (v : Word) : (b.queueByte v).Inv :=
  { h with csFlags := h.csFlags.imp .congr (.imp_right .congr) }

/-- A transfer ends with TXE and RXNE set and BSY clear, so OVR is never without RXNE; it re-derives the interrupt
line. -/
theorem transfer (h : b.Inv) (rx : Byte) : (b.transfer rx).Inv := by
  rw [Block.transfer_eq]
  exact
    { h with
      txe := rfl
      bsy := rfl
      ovr := fun _ => rfl
      csFlags := h.csFlags.imp .congr (.imp_right .congr)
      irq := rfl }

/-- A CSCR write decodes the four flags from the value it stores and re-derives both lines from them. -/
theorem storeCscr_csUpdate (h : b.Inv) (v : Word) : (b.storeCscr v).csUpdate.Inv :=
  { h with
    csFlags := .inl (b.csAgrees_storeCscr v).congr
    csN0 := rfl
    csN1 := rfl }

end Block.Inv

/-- Reset establishes the invariant from every controller: the flags agree with the raw value under ZERO, and are 0
under RETAIN. -/
theorem Block.inv_resetWith (b : Block) : (b.resetWith Config.pResetCsctrl).Inv where
  txe := rfl
  bsy := rfl
  udr := rfl
  ovr := nofun
  spiEnabled := BitVec.getLsbD_zero.symm
  masterMode := BitVec.getLsbD_zero.symm
  csFlags := by
    cases hp : Config.pResetCsctrl with
    | zero => exact .inl b.csAgrees_resetWith_zero
    | retain => exact .inr ⟨rfl, b.csCleared_resetWith .retain⟩
  csN0 := rfl
  csN1 := rfl
  irq := rfl

/-! Operations, steps and runs -/

/-- A DR write keeps the invariant, whether its transfer is permitted or not (41_register_write.md R103). -/
theorem execWrDr_keeps_inv {v : Word} {s t : State} (h : s.block.Inv) (he : execWrDr v s = .next t) : t.block.Inv := by
  cases hp : s.block.permitted with
  | false =>
    rw [execWrDr_denied hp] at he
    rw [block_of_complete he]
    exact h.queueByte v
  | true =>
    rw [execWrDr_permitted hp] at he
    rw [block_of_complete he]
    exact (h.queueByte v).transfer _

/-- Every operation keeps the invariant. -/
theorem exec_keeps_inv {i : Instr} {s t : State} (h : s.block.Inv) (he : exec i s = .next t) : t.block.Inv := by
  cases i with
  | rdCr1 | rdCr2 | rdSr | rdCscr | rdInvalid off => rw [block_of_returnData he]; exact h
  | rdDr => rw [block_of_returnData he]; exact h.acknowledge_irqUpdate
  | wrCr1 v => rw [block_of_complete he]; exact h.storeCr1 v
  | wrCr2 v => rw [block_of_complete he]; exact h.storeCr2_irqUpdate v
  | wrSr v | wrInvalid off v => rw [block_of_complete he]; exact h
  | wrDr v => exact execWrDr_keeps_inv h he
  | wrCscr v => rw [block_of_complete he]; exact h.storeCscr_csUpdate v
  | reset => rw [block_of_complete he]; exact s.block.inv_resetWith

/-- Every step keeps the invariant, from every state that meets it. -/
theorem step_keeps_inv {s t : State} (h : s.block.Inv) (hs : step s = .next t) : t.block.Inv := by
  obtain ⟨-, rfl⟩ | ⟨p, rest, -, -, rfl⟩ | ⟨e, rest, i, -, -, -, he⟩ := step_cases hs
  · exact h
  · exact h
  · exact exec_keeps_inv (s := { s with inbox := rest }) h he

/-- Settles O40, by induction on the run: the environment's moves leave the controller alone, and the block's own step
keeps the invariant. -/
theorem everyReachableStateMeetsInvariant : Obligations.EveryReachableStateMeetsInvariant := by
  intro s hs
  induction hs with
  | reset => exact Block.inv_reset
  | present e _ ih => exact ih
  | answers bytes _ ih => exact ih
  | step _ hstep ih => exact step_keeps_inv ih hstep

end Sys2Proof.Machine
end

section
/-! What a step does, by what stands at the head of the port (00_scope.md R9, 20_memory.md R62). -/

namespace Sys2Proof.Machine

/-- With nothing presented there is nothing to run (log entry 4). -/
theorem fetch_of_inbox_nil {s : State} (h : s.inbox = []) : fetch s = .idle s := by
  simp only [fetch, h]

/-- The oldest event is served, from the state without it. -/
theorem fetch_of_inbox_cons {s : State} {e : PortEvent} {rest : List PortEvent} (h : s.inbox = e :: rest) :
    fetch s = serve e { s with inbox := rest } := by
  simp only [fetch, h]

/-- A request that decodes is accepted as the operation it decodes to. -/
theorem accept_of_decodeRequest {r : Request} {i : Instr} (h : decodeRequest r = .ok i) (s : State) :
    accept r s = .run i s := by
  simp only [accept, h]

/-- A step whose fetch gives nothing to run ends in the state the fetch gives. -/
theorem step_of_fetch_idle {s t : State} (h : fetch s = .idle t) : step s = .next t := by
  simp only [step, h]

/-- A step whose fetch gives an operation is that operation. -/
theorem step_of_fetch_run {s t : State} {i : Instr} (h : fetch s = .run i t) : step s = exec i t := by
  simp only [step, h]

/-- A request at the head of the port is run as the operation it decodes to. -/
theorem step_of_access {s : State} {r : Request} {rest : List PortEvent} {i : Instr}
    (hq : s.inbox = .access r :: rest) (hd : decodeRequest r = .ok i) : step s = exec i { s with inbox := rest } :=
  step_of_fetch_run ((fetch_of_inbox_cons hq).trans (accept_of_decodeRequest hd _))

/-- The reset input at the head of the port is run as RESET. -/
theorem step_of_reset {s : State} {rest : List PortEvent} (hq : s.inbox = .reset :: rest) :
    step s = exec .reset { s with inbox := rest } :=
  step_of_fetch_run (fetch_of_inbox_cons hq)

/-- A presented access word is served first and leaves no event behind. -/
theorem step_present {aw : AccessWord} {i : Instr} (h : decode aw = .ok i) (s : State) :
    step (s.present aw) = exec i s :=
  step_of_access rfl h

/-- A table word that decodes is an access word that decodes to the same operation. -/
theorem exists_accessWord_of_decodeTableWord {nbits w : Nat} {i : Instr} (h : decodeTableWord nbits w = some i) :
    ∃ aw, tableAccessWord nbits w = some aw ∧ decode aw = .ok i := by
  unfold decodeTableWord at h
  split at h
  · cases h
  next aw haw =>
    split at h
    next j hj => exact ⟨aw, haw, hj.trans (congrArg _ (Option.some.inj h))⟩
    · cases h

/-- Placing a table word that is an access word presents that word. -/
theorem State.withFetchWord_eq_present {nbits w : Nat} {aw : AccessWord} (h : tableAccessWord nbits w = some aw)
    (s : State) : s.withFetchWord nbits w = s.present aw := by
  simp only [State.withFetchWord, h]

/-- Settles O6, clause by clause from the step at a request, at the reset input and at a placed word. -/
theorem stepRunsDecodedOperation : Obligations.StepRunsDecodedOperation := by
  refine ⟨fun s r rest i => step_of_access, fun s rest => step_of_reset, fun s nbits w i h => ?_⟩
  obtain ⟨aw, haw, hd⟩ := exists_accessWord_of_decodeTableWord h
  rw [State.withFetchWord_eq_present haw, step_present hd]

/-- Settles O8: the fetch is idle in the state itself (log entry 4). -/
theorem stepWithNothingPresentedIsIdle : Obligations.StepWithNothingPresentedIsIdle :=
  fun _ h => step_of_fetch_idle (fetch_of_inbox_nil h)

end Sys2Proof.Machine
end

section
/-! What the operations leave in the controller: the status flags (10_state.md R26 to R30, R38 to R41) and the decoded
chip-select flags (R43). -/

namespace Sys2Proof.Machine

/-- Settles O39: it is the step lemma of the invariant. -/
theorem everyStepKeepsInvariant : Obligations.EveryStepKeepsInvariant :=
  fun _ _ => step_keeps_inv

/-! What SR reads -/

/-- The invariant leaves two flags free, RXNE and OVR, and OVR only together with RXNE. -/
theorem Block.Inv.status_value_cases {b : Block} (h : b.Inv) :
    b.status.value = 0x00000002#32 ∨ b.status.value = 0x00000003#32 ∨ b.status.value = 0x0000000B#32 := by
  simp only [Status.value, h.txe, h.bsy, h.udr]
  cases hr : b.status.rxne with
  | false =>
    have ho : b.status.ovr = false := by simpa [hr] using h.ovr
    rw [ho]
    exact .inl (by decide)
  | true =>
    cases b.status.ovr with
    | false => exact .inr (.inl (by decide))
    | true => exact .inr (.inr (by decide))

/-- Settles O41: every reachable state meets the invariant, and RD_SR returns its status value. -/
theorem reachableStatusReadsAreThree : Obligations.ReachableStatusReadsAreThree :=
  fun s hs => ⟨s.block.status.value, rfl, (everyReachableStateMeetsInvariant s hs).status_value_cases⟩

/-! Operations answer, and a DR write's two outcomes -/

/-- Every operation answers a next state (60_exceptions.md R140). -/
theorem exec_answers (i : Instr) (s : State) : ∃ t, exec i s = .next t := by
  cases i <;> exact ⟨_, rfl⟩

/-- A DR write leaves the controller with the byte queued, or with the transfer of that byte performed. -/
theorem execWrDr_block_cases {v : Word} {s t : State} (he : execWrDr v s = .next t) :
    (s.block.permitted = false ∧ t.block = s.block.queueByte v) ∨
      (s.block.permitted = true ∧ t.block = (s.block.queueByte v).transfer s.answer) := by
  cases hp : s.block.permitted with
  | false =>
    rw [execWrDr_denied hp] at he
    exact .inl ⟨rfl, block_of_complete he⟩
  | true =>
    rw [execWrDr_permitted hp] at he
    exact .inr ⟨rfl, block_of_complete he⟩

/-! The writers of the status flags -/

/-- A DR write exchanges its low byte where the transfer is permitted, and nothing where it is not. -/
theorem exchangedBy_wrDr (v : Word) (b : Block) :
    exchangedBy (.wrDr v) b = if b.permitted then [drByte v] else [] := rfl

/-- What an operation makes of the flags: a transfer, a DR read and a reset write them, every other operation leaves
them alone (10_state.md R26 to R30). -/
theorem exec_status_cases {i : Instr} {s t : State} (he : exec i s = .next t) :
    (exchangedBy i s.block ≠ [] ∧ i ≠ .rdDr ∧ i ≠ .reset ∧
      t.block.status = s.block.status.startTransfer.noteOverrun.endTransfer) ∨
    (i = .rdDr ∧ t.block.status = s.block.status.acknowledge) ∨
    (i = .reset ∧ t.block.status = Status.txeOnly) ∨
    (exchangedBy i s.block = [] ∧ i ≠ .rdDr ∧ i ≠ .reset ∧ t.block.status = s.block.status) := by
  cases i with
  | rdDr => exact .inr (.inl ⟨rfl, (congrArg Block.status (block_of_returnData he) :)⟩)
  | reset => exact .inr (.inr (.inl ⟨rfl, (congrArg Block.status (block_of_complete he) :)⟩))
  | wrDr v =>
    obtain ⟨hp, hb⟩ | ⟨hp, hb⟩ := execWrDr_block_cases he
    · exact .inr (.inr (.inr ⟨by simp [exchangedBy_wrDr, hp], nofun, nofun, (congrArg Block.status hb :)⟩))
    · exact .inl ⟨by simp [exchangedBy_wrDr, hp], nofun, nofun, (congrArg Block.status hb :)⟩
  | rdCr1 | rdCr2 | rdSr | rdCscr | rdInvalid off =>
    exact .inr (.inr (.inr ⟨rfl, nofun, nofun, (congrArg Block.status (block_of_returnData he) :)⟩))
  | wrCr1 v | wrCr2 v | wrSr v | wrCscr v | wrInvalid off v =>
    exact .inr (.inr (.inr ⟨rfl, nofun, nofun, (congrArg Block.status (block_of_complete he) :)⟩))

/-- Settles O28, from the four cases of what an operation makes of the flags. -/
theorem statusFlagsFollowTheirWriters : Obligations.StatusFlagsFollowTheirWriters := by
  refine ⟨fun i s t he => ?_, fun st => ⟨rfl, rfl⟩⟩
  obtain ⟨hx, hd, hr, hst⟩ | ⟨rfl, hst⟩ | ⟨rfl, hst⟩ | ⟨hx, hd, hr, hst⟩ := exec_status_cases he
  case inl => simp [hx, hd, hr, hst]
  case inr.inl => simp [exchangedBy, hst]
  case inr.inr.inl => simp [exchangedBy, hst, Status.txeOnly]
  case inr.inr.inr => simp [hx, hd, hr, hst]

/-! The decoded chip-select flags -/

/-- Every operation but a reset keeps the agreement of the decoded flags with the raw value: a CSCR write writes both
together, the others write neither. -/
theorem exec_keeps_csAgrees {i : Instr} {s t : State} (hi : i ≠ .reset) (h : s.block.CsAgrees)
    (he : exec i s = .next t) : t.block.CsAgrees := by
  cases i with
  | rdCr1 | rdCr2 | rdSr | rdDr | rdCscr | rdInvalid off => rw [block_of_returnData he]; exact h.congr
  | wrCr1 v | wrCr2 v | wrSr v | wrInvalid off v => rw [block_of_complete he]; exact h.congr
  | wrDr v => obtain ⟨-, hb⟩ | ⟨-, hb⟩ := execWrDr_block_cases he <;> rw [hb] <;> exact h.congr
  | wrCscr v => rw [block_of_complete he]; exact (s.block.csAgrees_storeCscr v).congr
  | reset => exact absurd rfl hi

/-- Settles O43: the invariant's clause about the flags, a CSCR write, and the operations that keep the agreement. -/
theorem chipSelectFlagsAgreeWithRawRegister : Obligations.ChipSelectFlagsAgreeWithRawRegister := by
  refine ⟨fun s hs => (everyReachableStateMeetsInvariant s hs).csFlags,
    fun v s => ⟨_, rfl, (s.block.csAgrees_storeCscr v).congr⟩, fun i s hi h => ?_⟩
  obtain ⟨t, ht⟩ := exec_answers i s
  exact ⟨t, ht, exec_keeps_csAgrees hi h ht⟩

end Sys2Proof.Machine
end

section
/-! The byte in `data_out` cannot be observed (10_state.md R32, 92_eei_decisions.md D11): the one operation that sends
it, WR_DR, overwrites it first. -/

namespace Sys2Proof.Machine

/-- The state with another byte in `data_out`. -/
def State.withDataOut (d : Byte) (s : State) : State := { s with block := { s.block with dataOut := d } }

/-- What was taken off the port, with another byte in `data_out` of the state it goes on from. -/
def Fetched.withDataOut (d : Byte) : Fetched → Fetched
  | .idle s => .idle (s.withDataOut d)
  | .run i s => .run i (s.withDataOut d)
  | .refuse r => .refuse r

/-- A state equal to `s` but for `data_out` is `s` with some byte there. -/
theorem SameButDataOut.exists_withDataOut {s t : State} (h : SameButDataOut s t) : ∃ d, t = s.withDataOut d :=
  ⟨t.block.dataOut, (congrArg (State.withDataOut t.block.dataOut) h).symm⟩

/-- Two outcomes that cannot be told apart: next states equal but for `data_out`, or the same refusal. -/
inductive SameOutcome : Host.Outcome State Fault Refusal → Host.Outcome State Fault Refusal → Prop where
  | next {s t : State} (h : SameButDataOut s t) : SameOutcome (.next s) (.next t)
  | refused (r : Refusal) : SameOutcome (.refused r) (.refused r)

namespace SameOutcome

variable {o : Host.Outcome State Fault Refusal}

/-- Beside a next state stands a next state, equal but for `data_out`. -/
theorem exists_next {s : State} (h : SameOutcome (.next s) o) : ∃ t, o = .next t ∧ SameButDataOut s t := by
  cases h with
  | next hst => exact ⟨_, rfl, hst⟩

/-- Beside a refusal stands the same refusal. -/
theorem eq_refused {r : Refusal} (h : SameOutcome (.refused r) o) : o = .refused r := by
  cases h with
  | refused => rfl

end SameOutcome

/-- A DR write queues its own byte before anything reads `data_out`, so the byte from before is lost in it. -/
theorem execWrDr_withDataOut (v : Word) (d : Byte) (s : State) : execWrDr v (s.withDataOut d) = execWrDr v s := rfl

/-- No operation shows `data_out`: a DR write overwrites it, the others pass it on unread. -/
theorem exec_withDataOut (i : Instr) (d : Byte) (s : State) : SameOutcome (exec i s) (exec i (s.withDataOut d)) := by
  cases i with
  | wrDr v =>
    obtain ⟨t, ht⟩ := exec_answers (.wrDr v) s
    have ht' : exec (.wrDr v) (s.withDataOut d) = .next t := (execWrDr_withDataOut v d s).trans ht
    rw [ht, ht']
    exact .next rfl
  | rdCr1 | rdCr2 | rdSr | rdDr | rdCscr | rdInvalid off => exact .next rfl
  | wrCr1 v | wrCr2 v | wrSr v | wrCscr v | wrInvalid off v => exact .next rfl
  | reset => exact .next rfl

/-- Decoding a request does not look at `data_out`. -/
theorem accept_withDataOut (r : Request) (d : Byte) (s : State) :
    accept r (s.withDataOut d) = (accept r s).withDataOut d := by
  obtain ⟨-, i, hi, -⟩ | ⟨hs, -⟩ := accept_cases r s
  · rw [accept_of_decodeRequest hi, accept_of_decodeRequest hi]
    rfl
  · simp only [accept, decodeRequest_otherSize hs, Fetched.withDataOut]

/-- Serving an event does not look at `data_out`. -/
theorem serve_withDataOut (e : PortEvent) (d : Byte) (s : State) :
    serve e (s.withDataOut d) = (serve e s).withDataOut d := by
  cases e with
  | access r => exact accept_withDataOut r d s
  | platform p =>
    cases hp : route p with
    | some r => simpa only [serve, hp] using accept_withDataOut r d s
    | none => simp only [serve, hp]; rfl
  | reset | codeFetch off | restore => rfl

/-- Taking the next event off the port does not look at `data_out`. -/
theorem fetch_withDataOut (d : Byte) (s : State) : fetch (s.withDataOut d) = (fetch s).withDataOut d := by
  cases hq : s.inbox with
  | nil => rw [fetch_of_inbox_nil hq, fetch_of_inbox_nil (s := s.withDataOut d) hq]; rfl
  | cons e rest =>
    rw [fetch_of_inbox_cons hq, fetch_of_inbox_cons (s := s.withDataOut d) hq]
    exact serve_withDataOut e d { s with inbox := rest }

/-- One step keeps two states equal but for `data_out`, or is refused in both for the same reason. -/
theorem step_sameOutcome {s t : State} (h : SameButDataOut s t) : SameOutcome (step s) (step t) := by
  obtain ⟨d, rfl⟩ := h.exists_withDataOut
  simp only [step, fetch_withDataOut]
  cases fetch s with
  | idle u => exact .next rfl
  | run i u => exact exec_withDataOut i d u
  | refuse r => exact .refused r

/-- A run whose first step answers a state goes on from it. -/
theorem run_succ_of_next (M : Host.Core) {n : Nat} {s t : M.State} (h : M.step s = .next t) :
    M.run (n + 1) s = M.run n t := by
  simp only [Host.Core.run, h]

/-- A run whose first step is refused is refused for the same reason. -/
theorem run_succ_of_refused (M : Host.Core) {n : Nat} {s : M.State} {r : M.Refusal} (h : M.step s = .refused r) :
    M.run (n + 1) s = .refused r := by
  simp only [Host.Core.run, h]

/-- So does every run, by induction on its length. -/
theorem run_sameOutcome (n : Nat) {s t : State} (h : SameButDataOut s t) :
    SameOutcome (Host.Core.run core n s) (Host.Core.run core n t) := by
  induction n generalizing s t with
  | zero => exact .next h
  | succ n ih =>
    have hstep := step_sameOutcome h
    generalize hs : step s = o at hstep
    generalize ht : step t = p at hstep
    cases hstep with
    | next hst =>
      rw [run_succ_of_next core hs, run_succ_of_next core ht]
      exact ih hst
    | refused r =>
      rw [run_succ_of_refused core hs, run_succ_of_refused core ht]
      exact .refused r

/-- Settles O34: the outcomes of the two runs cannot be told apart. -/
theorem dataOutCannotBeObserved : Obligations.DataOutCannotBeObserved := by
  intro n s t h
  have hrun := run_sameOutcome n h
  constructor
  · intro s' hs
    rw [hs] at hrun
    exact hrun.exists_next
  · intro r hr
    rw [hr] at hrun
    exact hrun.eq_refused

end Sys2Proof.Machine
end

section
/-! Requests take effect in port order (20_memory.md R62): a well-formed operation stands at the port as an event that
the next step runs, and no operation reads or writes the list of waiting events. -/

namespace Sys2Proof.Machine

/-! The event of an operation -/

/-- The request of a well-formed operation decodes to that operation. -/
theorem decodeRequest_of_encodeRequest {i : Instr} {r : Request} (hw : i.wf = true) (h : encodeRequest i = some r) :
    decodeRequest r = .ok i := by
  cases i with
  | rdCr1 | rdCr2 | rdSr | rdDr | rdCscr | wrCr1 v | wrCr2 v | wrSr v | wrDr v | wrCscr v => cases h; rfl
  | rdInvalid off =>
    cases h
    exact (decodeRequest_read off _).trans (by rw [regAt_of_invalid hw]; rfl)
  | wrInvalid off v =>
    cases h
    exact (decodeRequest_write off v).trans (by rw [regAt_of_invalid hw]; rfl)
  | reset => cases h

/-- RESET alone has no request. -/
theorem eq_reset_of_encodeRequest {i : Instr} (h : encodeRequest i = none) : i = .reset := by
  cases i with
  | reset => rfl
  | _ => cases h

/-- A step with the event of a well-formed operation at the head of the port is that operation. -/
theorem step_of_event {i : Instr} {s : State} {rest : List PortEvent} (hw : i.wf = true)
    (hq : s.inbox = i.event :: rest) : step s = exec i { s with inbox := rest } := by
  unfold Instr.event at hq
  cases hr : encodeRequest i with
  | some r => exact step_of_access (by simpa only [hr] using hq) (decodeRequest_of_encodeRequest hw hr)
  | none =>
    obtain rfl := eq_reset_of_encodeRequest hr
    exact step_of_reset hq

/-! Operations do not look at what waits behind them -/

/-- A DR write, permitted or not, passes on any list of waiting events. -/
theorem execWrDr_withInbox {v : Word} {s t : State} (he : execWrDr v s = .next t) (q : List PortEvent) :
    execWrDr v { s with inbox := q } = .next { t with inbox := q } := by
  cases hp : s.block.permitted with
  | false =>
    rw [execWrDr_denied hp] at he
    rw [execWrDr_denied (s := { s with inbox := q }) hp, complete_eq_next.mp he]
    rfl
  | true =>
    rw [execWrDr_permitted hp] at he
    rw [execWrDr_permitted (s := { s with inbox := q }) hp, complete_eq_next.mp he]
    rfl

/-- An operation passes on any list of waiting events, and does everything else as without it. -/
theorem exec_withInbox {i : Instr} {s t : State} (he : exec i s = .next t) (q : List PortEvent) :
    exec i { s with inbox := q } = .next { t with inbox := q } := by
  cases i with
  | rdCr1 | rdCr2 | rdSr | rdDr | rdCscr | rdInvalid off => rw [returnData_eq_next.mp he]; rfl
  | wrCr1 v | wrCr2 v | wrSr v | wrCscr v | wrInvalid off v | reset => rw [complete_eq_next.mp he]; rfl
  | wrDr v => exact execWrDr_withInbox he q

/-! Operations one after another -/

/-- The operations after the first go on from the state the first leaves. -/
theorem execAll_cons_of_next {i : Instr} {s t : State} (he : exec i s = .next t) (is : List Instr) :
    execAll (i :: is) s = execAll is t := by
  simp only [execAll, he]

/-- Operations one after another pass on any list of waiting events. -/
theorem execAll_withInbox {is : List Instr} {s t : State} (h : execAll is s = .next t) (q : List PortEvent) :
    execAll is { s with inbox := q } = .next { t with inbox := q } := by
  induction is generalizing s with
  | nil =>
    cases h
    rfl
  | cons i is ih =>
    obtain ⟨u, hu⟩ := exec_answers i s
    rw [execAll_cons_of_next hu] at h
    rw [execAll_cons_of_next (exec_withInbox hu q)]
    exact ih h

/-- The run over the events of well-formed operations performs the operations in order. -/
theorem run_events_eq_execAll {is : List Instr} (hw : ∀ i ∈ is, i.wf = true) (s : State) (later : List PortEvent) :
    Host.Core.run core is.length { s with inbox := is.map Instr.event ++ later } =
      execAll is { s with inbox := later } := by
  induction is generalizing s with
  | nil => rfl
  | cons i is ih =>
    obtain ⟨hi, his⟩ := List.forall_mem_cons.mp hw
    obtain ⟨t, ht⟩ := exec_answers i s
    have hstep : step { s with inbox := (i :: is).map Instr.event ++ later } =
        .next { t with inbox := is.map Instr.event ++ later } :=
      (step_of_event hi rfl).trans (exec_withInbox ht _)
    rw [execAll_cons_of_next (exec_withInbox ht later)]
    exact (run_succ_of_next core hstep).trans (ih his t)

/-- Settles O13, by induction on the list of operations: each step is the next operation, and the operations pass on
what waits behind them. -/
theorem requestsTakeEffectInPortOrder : Obligations.RequestsTakeEffectInPortOrder :=
  ⟨fun _ s later hw => run_events_eq_execAll hw s later, fun _ _ _ later h => execAll_withInbox h later⟩

end Sys2Proof.Machine
end

section
/-! The port's events that are no plain request: a platform access is routed by the window (20_memory.md R50), and
three events are refused (92_eei_decisions.md D2, D16, D19). -/

namespace Sys2Proof.Machine

/-! Platform accesses -/

/-- An access inside the window is routed to the offset of its address. -/
theorem route_inside {p : PlatformAccess} (hlo : Config.pBase ≤ p.addr)
    (hhi : p.addr < Config.pBase + Config.pWindow) :
    route p =
      some { dir := p.dir, size := p.size, off := BitVec.ofNat 12 (p.addr - Config.pBase), wdata := p.wdata } :=
  if_pos ⟨hlo, hhi⟩

/-- An access outside the window is not routed to the block. -/
theorem route_outside {p : PlatformAccess} (h : p.addr < Config.pBase ∨ Config.pBase + Config.pWindow ≤ p.addr) :
    route p = none :=
  if_neg (by omega)

/-- A step over a routed access is the step over its request. -/
theorem step_of_routed {s : State} {p : PlatformAccess} {r : Request} {rest : List PortEvent}
    (hq : s.inbox = .platform p :: rest) (hr : route p = some r) :
    step s = step { s with inbox := .access r :: rest } := by
  have hfetch : fetch s = fetch { s with inbox := .access r :: rest } := by
    rw [fetch_of_inbox_cons hq, fetch_of_inbox_cons (s := { s with inbox := .access r :: rest }) rfl]
    simp only [serve, hr]
  simp only [step, hfetch]

/-- A step over an access that is not the block's takes the event and returns nothing (log entry 12). -/
theorem step_of_unrouted {s : State} {p : PlatformAccess} {rest : List PortEvent}
    (hq : s.inbox = .platform p :: rest) (hr : route p = none) :
    step s = .next { s with inbox := rest, rdata := none } := by
  refine step_of_fetch_idle ((fetch_of_inbox_cons hq).trans ?_)
  simp only [serve, hr]

/-- The distance of an address inside the window from its base fits the 12 bits of an offset. -/
theorem toNat_offset_inside {a : Nat} (hlo : Config.pBase ≤ a) (hhi : a < Config.pBase + Config.pWindow) :
    (BitVec.ofNat 12 (a - Config.pBase)).toNat = a - Config.pBase := by
  obtain ⟨-, hmax⟩ := pWindow_bounds
  rw [BitVec.toNat_ofNat]
  exact Nat.mod_eq_of_lt (by omega)

/-- Settles O9, by the two outcomes of routing and the bounds of the window. -/
theorem platformAccessIsRoutedByWindow : Obligations.PlatformAccessIsRoutedByWindow :=
  ⟨fun _ _ _ hq hlo hhi => ⟨toNat_offset_inside hlo hhi, step_of_routed hq (route_inside hlo hhi)⟩,
    fun _ _ _ hq h => step_of_unrouted hq (route_outside h), pWindow_bounds⟩

/-! Refused events -/

/-- A step whose fetch is refused is refused for the same reason. -/
theorem step_of_fetch_refuse {s : State} {r : Refusal} (h : fetch s = .refuse r) : step s = .refused r := by
  simp only [step, h]

/-- A request of another size than 4 is not accepted. -/
theorem accept_of_otherSize {r : Request} (h : r.size ≠ 4#4) (s : State) : accept r s = .refuse .unsupportedSize := by
  simp only [accept, decodeRequest_otherSize h]

/-- Settles O7, by what serving each of the three events gives. -/
theorem stepRefusesByName : Obligations.StepRefusesByName :=
  ⟨fun _ _ _ hq hs => step_of_fetch_refuse ((fetch_of_inbox_cons hq).trans (accept_of_otherSize hs _)),
    fun _ _ _ hq => step_of_fetch_refuse (fetch_of_inbox_cons hq),
    fun _ _ hq => step_of_fetch_refuse (fetch_of_inbox_cons hq)⟩

end Sys2Proof.Machine
end

section
/-! Repeated operations (20_memory.md R61) and the bytes that operations exchange (R64). -/

namespace Sys2Proof.Machine

/-! Updates done twice -/

/-- A second DR read finds the flags cleared and the interrupt line at its level. -/
theorem Block.acknowledge_irqUpdate_twice (b : Block) :
    b.acknowledge.irqUpdate.acknowledge.irqUpdate = b.acknowledge.irqUpdate := rfl

/-- Two resets are one, under both values of the open parameter (70_reset_and_hazards.md R160). -/
theorem Block.resetWith_twice (p : ResetCsctrl) (b : Block) : (b.resetWith p).resetWith p = b.resetWith p := by
  cases p <;> rfl

/-- Settles O19, by the operations: a read returns what it has left unchanged, a write stores the same value again, and
a DR read and a reset find their own work done. -/
theorem repeatedOperationChangesNothingMore : Obligations.RepeatedOperationChangesNothingMore := by
  intro i s t hDr hRdInvalid hWrInvalid he
  cases i with
  | rdCr1 | rdCr2 | rdSr | rdCscr => rw [returnData_eq_next.mp he]; rfl
  | rdDr =>
    rw [returnData_eq_next.mp he]
    exact returnData_eq_next.mpr
      (by simp only [State.onBlock, Block.acknowledge_irqUpdate_twice, Block.irqUpdate_dataIn, Block.acknowledge_dataIn])
  | wrCr1 v | wrCr2 v | wrSr v | wrCscr v => rw [complete_eq_next.mp he]; rfl
  | reset =>
    rw [complete_eq_next.mp he]
    exact complete_eq_next.mpr (by simp only [State.onBlock, Block.resetWith_twice])
  | wrDr v => exact absurd rfl (hDr v)
  | rdInvalid off => exact absurd rfl (hRdInvalid off)
  | wrInvalid off v => exact absurd rfl (hWrInvalid off v)

/-! The bytes exchanged -/

/-- Returning a value to the requester exchanges nothing. -/
theorem exchanged_of_returnData {v : Word} {s t : State} (h : returnData v s = .next t) :
    t.exchanged = s.exchanged := by
  rw [returnData_eq_next.mp h]

/-- Completing without a value exchanges nothing. -/
theorem exchanged_of_complete {s t : State} (h : complete s = .next t) : t.exchanged = s.exchanged := by
  rw [complete_eq_next.mp h]

/-- A transfer exchanges the queued byte. -/
@[simp] theorem State.transfer_exchanged (s : State) : s.transfer.exchanged = s.exchanged ++ [s.block.dataOut] := rfl

/-- A DR write exchanges the byte it queues where the transfer is permitted, and nothing where it is not. -/
theorem execWrDr_exchanged {v : Word} {s t : State} (he : execWrDr v s = .next t) :
    t.exchanged = s.exchanged ++ exchangedBy (.wrDr v) s.block := by
  cases hp : s.block.permitted with
  | false =>
    rw [execWrDr_denied hp] at he
    simp [exchanged_of_complete he, exchangedBy_wrDr, hp]
  | true =>
    rw [execWrDr_permitted hp] at he
    simp [exchanged_of_complete he, exchangedBy_wrDr, hp]

/-- Every operation adds to the exchanged bytes its own, if it has one. -/
theorem exec_exchanged {i : Instr} {s t : State} (he : exec i s = .next t) :
    t.exchanged = s.exchanged ++ exchangedBy i s.block := by
  cases i with
  | wrDr v => exact execWrDr_exchanged he
  | rdCr1 | rdCr2 | rdSr | rdDr | rdCscr | rdInvalid off =>
    exact (exchanged_of_returnData he).trans (List.append_nil _).symm
  | wrCr1 v | wrCr2 v | wrSr v | wrCscr v | wrInvalid off v | reset =>
    exact (exchanged_of_complete he).trans (List.append_nil _).symm

/-- The bytes of operations one after another: those of the first, then those of the others from the state it leaves. -/
theorem exchangedByAll_cons_of_next {i : Instr} {s t : State} (he : exec i s = .next t) (is : List Instr) :
    exchangedByAll (i :: is) s = exchangedBy i s.block ++ exchangedByAll is t := by
  simp only [exchangedByAll, he]

/-- Operations one after another answer, and add their bytes in order. -/
theorem execAll_exchanged (is : List Instr) (s : State) :
    ∃ t, execAll is s = .next t ∧ t.exchanged = s.exchanged ++ exchangedByAll is s := by
  induction is generalizing s with
  | nil => exact ⟨s, rfl, (List.append_nil _).symm⟩
  | cons i is ih =>
    obtain ⟨u, hu⟩ := exec_answers i s
    obtain ⟨t, ht, hx⟩ := ih u
    refine ⟨t, (execAll_cons_of_next hu is).trans ht, ?_⟩
    rw [hx, exec_exchanged hu, exchangedByAll_cons_of_next hu, List.append_assoc]

/-- Settles O31, from the byte of each operation and by induction on the list of operations. -/
theorem exchangesAreThePermittedDataWrites : Obligations.ExchangesAreThePermittedDataWrites := by
  refine ⟨fun i s => ?_, execAll_exchanged⟩
  obtain ⟨t, ht⟩ := exec_answers i s
  exact ⟨t, ht, exec_exchanged ht⟩

end Sys2Proof.Machine
end

section
/-! The operation that a request of size 4 selects, in one term for both directions (30_encoding.md R73), and the
request that it is encoded as (R71, R86). -/

namespace Sys2Proof

/-- The operation that direction, offset, value and selected register give (30_encoding.md R73). -/
def selectedOp (d : Dir) (off : Offset) (v : Word) (g : Option Reg) : Instr :=
  match d with
  | .read => readOp off g
  | .write => writeOp off v g

/-- A request of size 4 decodes to the operation it selects. -/
theorem decodeRequest_of_size {r : Request} (h : r.size = 4#4) :
    decodeRequest r = .ok (selectedOp r.dir r.off r.wdata (regAt r.off)) := by
  obtain ⟨dir, size, off, v⟩ := r
  obtain rfl : size = 4#4 := h
  cases dir <;> rfl

/-- A selected operation is encoded with its direction and offset, a write with its value and a read with WDATA 0. -/
theorem encodeRequest_selectedOp (d : Dir) (off : Offset) (v : Word) :
    encodeRequest (selectedOp d off v (regAt off)) = some (if d.bit then writeRequest off v else readRequest off) := by
  cases h : regAt off with
  | none => cases d <;> rfl
  | some g =>
    rw [offset_of_regAt h]
    cases d <;> cases g <;> rfl

/-- A request that decodes is the request of its operation, but for the WDATA of a read (92_eei_decisions.md D27). -/
theorem encodeRequest_of_decodeRequest {r : Request} {i : Instr} (h : decodeRequest r = .ok i) :
    encodeRequest i = some (if r.dir.bit then r else { r with wdata := 0#32 }) := by
  have hs := size_of_decodeRequest h
  rw [decodeRequest_of_size hs] at h
  rw [← Except.ok.inj h, encodeRequest_selectedOp]
  obtain ⟨d, size, off, v⟩ := r
  obtain rfl : size = 4#4 := hs
  cases d <;> rfl

end Sys2Proof
end

section
/-! The two round trips between operations and access words (30_encoding.md sections 1, 2, 6): a word is its request, a
request that decodes is the request of its operation but for the WDATA of a read, and the request of a well-formed
operation decodes to it. -/

namespace Sys2Proof.Machine

/-- Settles O2: the word of an operation is that of its request, which decodes to the operation. -/
theorem decodeOfEncodeReturnsInstruction : Obligations.DecodeOfEncodeReturnsInstruction := by
  refine ⟨fun i hw hi => ?_, rfl⟩
  cases h : encodeRequest i with
  | none => exact absurd (eq_reset_of_encodeRequest h) hi
  | some r =>
    exact ⟨r.toAw, congrArg (Option.map Request.toAw) h, (decode_toAw r).trans (decodeRequest_of_encodeRequest hw h)⟩

/-- Settles O3: encoding gives back the word's request, and clearing WDATA in it is the mask of the exact rows. -/
theorem encodeOfDecodeReturnsWord : Obligations.EncodeOfDecodeReturnsWord := by
  intro w i h
  obtain ⟨hw, hi⟩ := wf_of_decodeRequest h
  refine ⟨hw, hi, ?_⟩
  have hbit : (Request.ofAw w).dir.bit = w.getLsbD 48 := Dir.bit_ofBit _
  rw [encode, encodeRequest_of_decodeRequest h, Option.map_some, hbit, apply_ite Request.toAw,
    Request.toAw_clear_wdata, Request.toAw_ofAw]

end Sys2Proof.Machine
end

section
/-! The opcode map (30_encoding.md R86): its rows by direction and register, the requests each covers, and the mnemonic
it gives a word. -/

namespace Sys2Proof

/-- The mnemonic that direction and selected register give. -/
def selectedMnemonic (d : Dir) (g : Option Reg) : String := (selectedOp d 0#12 0#32 g).mnemonic

/-- The mnemonic of a selected operation does not depend on its operands. -/
theorem selectedOp_mnemonic (d : Dir) (off : Offset) (v : Word) (g : Option Reg) :
    (selectedOp d off v g).mnemonic = selectedMnemonic d g := by
  rcases g with _ | g
  · cases d <;> rfl
  · cases d <;> cases g <;> rfl

/-! The rows -/

/-- The exact row of a direction and a register. -/
def exactRow (d : Dir) (g : Reg) : OpcodeRow where
  mnemonic := selectedMnemonic d (some g)
  pattern := Request.toAw { dir := d, size := 4#4, off := g.offset, wdata := 0#32 }
  mask := 0x1FFFF00000000#49

/-- The default row of a direction. -/
def defaultRow (d : Dir) : OpcodeRow where
  mnemonic := selectedMnemonic d none
  pattern := Request.toAw { dir := d, size := 4#4, off := 0#12, wdata := 0#32 }
  mask := 0x1F00000000000#49

/-- The exact rows of the map are those of the two directions and the five registers. -/
theorem exactRows_eq : exactRows =
    [.cr1, .cr2, .sr, .dr, .cscr].map (exactRow .read) ++ [.cr1, .cr2, .sr, .dr, .cscr].map (exactRow .write) := by
  decide

/-- The default rows of the map are those of the two directions. -/
theorem defaultRows_eq : defaultRows = [.read, .write].map defaultRow := by decide

/-- A row of the exact rows is that of a direction and a register. -/
theorem mem_exactRows {row : OpcodeRow} : row ∈ exactRows ↔ ∃ d g, exactRow d g = row := by
  rw [exactRows_eq]
  constructor
  · intro h
    rcases List.mem_append.mp h with h | h <;> obtain ⟨g, -, hg⟩ := List.mem_map.mp h <;> exact ⟨_, g, hg⟩
  · rintro ⟨d, g, rfl⟩
    cases d <;> cases g <;> simp

/-- A row of the default rows is that of a direction. -/
theorem mem_defaultRows {row : OpcodeRow} : row ∈ defaultRows ↔ ∃ d, defaultRow d = row := by
  rw [defaultRows_eq]
  constructor
  · intro h
    obtain ⟨d, -, hd⟩ := List.mem_map.mp h
    exact ⟨d, hd⟩
  · rintro ⟨d, rfl⟩
    cases d <;> simp

/-! The requests a row covers -/

/-- Requests with the same word are the same. -/
theorem Request.toAw_inj {r q : Request} : r.toAw = q.toAw ↔ r = q :=
  ⟨fun h => by rw [← Request.ofAw_toAw r, h, Request.ofAw_toAw], congrArg _⟩

/-- A word under the mask of the default rows keeps DIR and SIZE. -/
theorem Request.toAw_clear_off_wdata (r : Request) :
    ({ r with off := 0#12, wdata := 0#32 } : Request).toAw = r.toAw &&& 0x1F00000000000#49 := by
  have h := AccessWord.append_and (BitVec.ofBool r.dir.bit ++ r.size ++ r.off) 0x1F000 r.wdata
  rw [Laws.EncodesToRow.dirSize_and] at h
  exact h.symm

/-- An exact row covers the requests of size 4 in its direction whose offset selects its register. -/
theorem exactRow_covers_iff {d : Dir} {g : Reg} {r : Request} :
    (exactRow d g).covers r.toAw = true ↔ r.dir = d ∧ r.size = 4#4 ∧ regAt r.off = some g := by
  have hoff : regAt r.off = some g ↔ r.off = g.offset := ⟨offset_of_regAt, fun h => by rw [h, regAt_offset]⟩
  rw [OpcodeRow.covers, beq_iff_eq, exactRow, ← Request.toAw_clear_wdata, Request.toAw_inj, hoff]
  simp only [Request.mk.injEq, and_true]

/-- A default row covers the requests of size 4 in its direction. -/
theorem defaultRow_covers_iff {d : Dir} {r : Request} :
    (defaultRow d).covers r.toAw = true ↔ r.dir = d ∧ r.size = 4#4 := by
  rw [OpcodeRow.covers, beq_iff_eq, defaultRow, ← Request.toAw_clear_off_wdata, Request.toAw_inj]
  simp only [Request.mk.injEq, and_true]

/-! The mnemonic of a word -/

/-- An exact row that a request meets has the mnemonic of the request's direction and register. -/
theorem mnemonic_of_find?_exactRows {r : Request} {row : OpcodeRow}
    (h : exactRows.find? (fun row => row.covers r.toAw) = some row) :
    r.size = 4#4 ∧ row.mnemonic = selectedMnemonic r.dir (regAt r.off) := by
  obtain ⟨d, g, rfl⟩ := mem_exactRows.mp (List.mem_of_find?_eq_some h)
  obtain ⟨rfl, hs, hg⟩ := exactRow_covers_iff.mp (List.find?_some (p := fun row : OpcodeRow => row.covers r.toAw) h)
  exact ⟨hs, by rw [hg]; rfl⟩

/-- A request of size 4 that meets no exact row selects no register. -/
theorem regAt_of_find?_exactRows {r : Request} (h : exactRows.find? (fun row => row.covers r.toAw) = none)
    (hs : r.size = 4#4) : regAt r.off = none := by
  cases hg : regAt r.off with
  | none => rfl
  | some g =>
    exact absurd (exactRow_covers_iff.mpr ⟨rfl, hs, hg⟩)
      (List.find?_eq_none.mp h _ (mem_exactRows.mpr ⟨r.dir, g, rfl⟩))

/-- A default row that a request meets has the mnemonic of an invalid access in the request's direction. -/
theorem mnemonic_of_find?_defaultRows {r : Request} {row : OpcodeRow}
    (h : defaultRows.find? (fun row => row.covers r.toAw) = some row) :
    r.size = 4#4 ∧ row.mnemonic = selectedMnemonic r.dir none := by
  obtain ⟨d, rfl⟩ := mem_defaultRows.mp (List.mem_of_find?_eq_some h)
  obtain ⟨rfl, hs⟩ := defaultRow_covers_iff.mp (List.find?_some (p := fun row : OpcodeRow => row.covers r.toAw) h)
  exact ⟨hs, rfl⟩

/-- A request that meets no default row has another size than 4. -/
theorem size_of_find?_defaultRows {r : Request} (h : defaultRows.find? (fun row => row.covers r.toAw) = none) :
    r.size ≠ 4#4 := fun hs =>
  absurd (defaultRow_covers_iff.mpr ⟨rfl, hs⟩) (List.find?_eq_none.mp h _ (mem_defaultRows.mpr ⟨r.dir, rfl⟩))

/-- The map gives a request of size 4 the mnemonic of its direction and register, and any other request none. -/
theorem mappedMnemonic_toAw (r : Request) :
    mappedMnemonic r.toAw = if r.size = 4#4 then some (selectedMnemonic r.dir (regAt r.off)) else none := by
  rw [mappedMnemonic, List.find?_append]
  cases he : exactRows.find? (fun row => row.covers r.toAw) with
  | some row =>
    obtain ⟨hs, hm⟩ := mnemonic_of_find?_exactRows he
    rw [if_pos hs, ← hm]
    rfl
  | none =>
    cases hd : defaultRows.find? (fun row => row.covers r.toAw) with
    | some row =>
      obtain ⟨hs, hm⟩ := mnemonic_of_find?_defaultRows hd
      rw [if_pos hs, regAt_of_find?_exactRows he hs, ← hm]
      rfl
    | none =>
      rw [if_neg (size_of_find?_defaultRows hd)]
      rfl

/-- Settles O4: every word is that of its request, and decoder and map both go by its size, direction and register. -/
theorem decodeFollowsOpcodeMap : Obligations.DecodeFollowsOpcodeMap := by
  refine ⟨fun w => ?_, rfl⟩
  rw [← Request.toAw_ofAw w, decode_toAw, mappedMnemonic_toAw]
  by_cases hs : (Request.ofAw w).size = 4#4
  · rw [if_pos hs, decodeRequest_of_size hs]
    exact congrArg some (selectedOp_mnemonic _ _ _ _)
  · rw [if_neg hs, decodeRequest_otherSize hs]

end Sys2Proof
end

section
/-! The fields of an access word as numbers (30_encoding.md R71 to R73). -/

namespace Sys2Proof

/-- The direction of a number whose bit 48 is its highest. -/
theorem Request.dir_ofAw_ofNat {n : Nat} (h : n < 2 ^ 49) :
    (Request.ofAw (BitVec.ofNat 49 n)).dir = if n / 2 ^ 48 = 0 then .read else .write := by
  have hbit : (BitVec.ofNat 49 n).getLsbD 48 = decide (n / 2 ^ 48 = 1) := by
    rw [BitVec.getLsbD_ofNat, Nat.testBit_eq_decide_div_mod_eq, Nat.mod_eq_of_lt (by omega : n / 2 ^ 48 < 2)]
    rfl
  rw [Request.ofAw, hbit]
  obtain h0 | h1 : n / 2 ^ 48 = 0 ∨ n / 2 ^ 48 = 1 := by omega
  · rw [h0]; rfl
  · rw [h1]; rfl

/-- Bits of a number from `start` on, as a number. -/
theorem AccessWord.extractLsb'_ofNat {n : Nat} (h : n < 2 ^ 49) (start len : Nat) :
    (BitVec.ofNat 49 n).extractLsb' start len = BitVec.ofNat len (n / 2 ^ start % 2 ^ len) := by
  apply BitVec.eq_of_toNat_eq
  rw [BitVec.extractLsb'_toNat, BitVec.toNat_ofNat, BitVec.toNat_ofNat, Nat.mod_eq_of_lt h, Nat.shiftRight_eq_div_pow,
    Nat.mod_mod]

/-- The four fields of an access word given as a number, by division and remainder. -/
theorem Request.ofAw_ofNat {n : Nat} (h : n < 2 ^ 49) :
    Request.ofAw (BitVec.ofNat 49 n) =
      { dir := if n / 2 ^ 48 = 0 then .read else .write
        size := BitVec.ofNat 4 (n / 2 ^ 44 % 2 ^ 4)
        off := BitVec.ofNat 12 (n / 2 ^ 32 % 2 ^ 12)
        wdata := BitVec.ofNat 32 (n % 2 ^ 32) } := by
  have hv := AccessWord.extractLsb'_ofNat h 0 32
  rw [pow_zero, Nat.div_one] at hv
  rw [← Request.dir_ofAw_ofNat h, ← AccessWord.extractLsb'_ofNat h, ← AccessWord.extractLsb'_ofNat h, ← hv]
  rfl

/-- On numbers that a width holds, the bit vector determines the number. -/
theorem ofNat_eq_ofNat_iff {w m k : Nat} (hm : m < 2 ^ w) (hk : k < 2 ^ w) :
    BitVec.ofNat w m = BitVec.ofNat w k ↔ m = k := by
  rw [← BitVec.toNat_inj, BitVec.toNat_ofNat, BitVec.toNat_ofNat, Nat.mod_eq_of_lt hm, Nat.mod_eq_of_lt hk]

/-- The register map by the number of the offset (30_encoding.md R72). -/
theorem regAt_ofNat {o : Nat} (h : o < 2 ^ 12) :
    regAt (BitVec.ofNat 12 o) =
      if o = 0x00 then some .cr1 else if o = 0x04 then some .cr2 else if o = 0x08 then some .sr
      else if o = 0x0C then some .dr else if o = 0x10 then some .cscr else none := by
  have heq {k : Nat} (hk : k < 2 ^ 12) : BitVec.ofNat 12 o = BitVec.ofNat 12 k ↔ o = k := ofNat_eq_ofNat_iff h hk
  simp only [regAt, heq (k := 0x00) (by decide), heq (k := 0x04) (by decide), heq (k := 0x08) (by decide),
    heq (k := 0x0C) (by decide), heq (k := 0x10) (by decide)]

/-- Settles O5, from the fields of the word as numbers and the register map by the number of the offset. -/
theorem decodeReadsAccessWordFields : Obligations.DecodeReadsAccessWordFields := by
  intro n hn dir size off v
  have hdecode : decode (BitVec.ofNat 49 n) = decodeRequest
      { dir := if dir = 0 then .read else .write, size := BitVec.ofNat 4 size, off := BitVec.ofNat 12 off, wdata := v } :=
    congrArg decodeRequest (Request.ofAw_ofNat hn)
  have hsize : BitVec.ofNat 4 size = 4#4 ↔ size = 4 := ofNat_eq_ofNat_iff (Nat.mod_lt _ (by decide)) (by decide)
  by_cases hs : size = 4
  · rw [hdecode, decodeRequest_of_size (hsize.mpr hs), regAt_ofNat (Nat.mod_lt _ (by decide)), if_neg (not_not.mpr hs)]
    split_ifs <;> rfl
  · rw [hdecode, decodeRequest_otherSize (fun h => hs (hsize.mp h)), if_pos hs]

end Sys2Proof
end

section
/-! Which events a step answers, and how the operations end (30_encoding.md R83, 60_exceptions.md R140). -/

namespace Sys2Proof.Machine

/-- A refused step answers no next state. -/
theorem not_answers_of_refused {s : State} {r : Refusal} (h : step s = .refused r) : ¬ ∃ t, step s = .next t := by
  rintro ⟨t, ht⟩
  rw [h] at ht
  cases ht

/-- A step over a request answers exactly when its size is 4 (92_eei_decisions.md D2). -/
theorem step_access_answers_iff {s : State} {r : Request} {rest : List PortEvent} (hq : s.inbox = .access r :: rest) :
    (∃ t, step s = .next t) ↔ r.size = 4#4 := by
  have hf : fetch s = accept r { s with inbox := rest } := fetch_of_inbox_cons hq
  obtain ⟨hs, i, -, ha⟩ | ⟨hs, ha⟩ := accept_cases r { s with inbox := rest } <;> rw [ha] at hf
  · rw [step_of_fetch_run hf]
    exact iff_of_true (exec_answers i _) hs
  · exact iff_of_false (not_answers_of_refused (step_of_fetch_refuse hf)) hs

/-- A step over a platform access answers exactly when its size is 4 or it is outside the window (log entry 12). -/
theorem step_platform_answers_iff {s : State} {p : PlatformAccess} {rest : List PortEvent}
    (hq : s.inbox = .platform p :: rest) :
    (∃ t, step s = .next t) ↔ p.size = 4#4 ∨ p.addr < Config.pBase ∨ Config.pBase + Config.pWindow ≤ p.addr := by
  by_cases hout : p.addr < Config.pBase ∨ Config.pBase + Config.pWindow ≤ p.addr
  · exact iff_of_true ⟨_, step_of_unrouted hq (route_outside hout)⟩ (.inr hout)
  · rw [step_of_routed hq (route_inside (by omega) (by omega)), step_access_answers_iff rfl, or_iff_left hout]

/-- Settles O11, by the event at the head of the port. -/
theorem stepAnswersExactlyServedEvents : Obligations.StepAnswersExactlyServedEvents := by
  intro s e rest hq
  cases e with
  | access r => exact step_access_answers_iff hq
  | platform p => exact step_platform_answers_iff hq
  | reset =>
    rw [step_of_reset hq]
    exact iff_of_true (exec_answers .reset _) trivial
  | codeFetch off | restore =>
    exact iff_of_false (not_answers_of_refused (step_of_fetch_refuse (fetch_of_inbox_cons hq))) id

/-- An operation leaves the waiting events alone: it passes on the list it finds. -/
theorem inbox_of_exec {i : Instr} {s t : State} (he : exec i s = .next t) : t.inbox = s.inbox := by
  have h : exec i s = .next { t with inbox := s.inbox } := exec_withInbox he s.inbox
  exact (congrArg State.inbox (Host.Outcome.next.inj (he.symm.trans h)) :)

/-- Settles O10: every operation answers, and leaves the waiting events alone. -/
theorem everyOperationCompletes : Obligations.EveryOperationCompletes := by
  intro i s
  obtain ⟨t, ht⟩ := exec_answers i s
  exact ⟨t, ht, inbox_of_exec ht⟩

end Sys2Proof.Machine
end

section
/-! Fixed words of the spec's table, and the values that reads return (30_encoding.md R78, R81). -/

namespace Sys2Proof.Machine

/-- Settles O1, by decoding each word. -/
theorem specAccessWordsDecode : Obligations.SpecAccessWordsDecode := by
  unfold Obligations.SpecAccessWordsDecode
  decide

/-- A 4-byte read word decodes by its offset, whatever its WDATA (92_eei_decisions.md D27). -/
theorem decode_readWord (off : Offset) (d : Word) :
    decode ((BitVec.ofBool false ++ 4#4 ++ off : BitVec 17) ++ d) = .ok (readOp off (regAt off)) :=
  (decode_toAw { dir := .read, size := 4#4, off := off, wdata := d }).trans (decodeRequest_read off d)

/-- A flag shifted to bit `n` of a word is that bit, and the only one that can be set. -/
theorem getLsbD_flagBit (b : Bool) {n : Nat} (hn : n < 32) (k : Nat) : (flagBit b n).getLsbD k = (b && decide (k = n)) := by
  simp only [flagBit, BitVec.getLsbD_shiftLeft, BitVec.getLsbD_setWidth, BitVec.getLsbD_ofBool]
  cases b
  · simp
  · rw [Bool.eq_iff_iff]
    simp only [Bool.and_true, Bool.true_and, Bool.and_eq_true, Bool.not_eq_true', decide_eq_true_eq,
      decide_eq_false_iff_not]
    omega

/-- The bits of the value a status read returns (30_encoding.md R78). -/
theorem Status.getLsbD_value (st : Status) (k : Nat) :
    st.value.getLsbD k =
      (st.bsy && decide (k = 7) || st.ovr && decide (k = 3) || st.udr && decide (k = 2) || st.txe && decide (k = 1) ||
        st.rxne && decide (k = 0)) := by
  simp only [Status.value, BitVec.getLsbD_or, getLsbD_flagBit _ (by decide : 7 < 32),
    getLsbD_flagBit _ (by decide : 3 < 32), getLsbD_flagBit _ (by decide : 2 < 32),
    getLsbD_flagBit _ (by decide : 1 < 32), getLsbD_flagBit _ (by decide : 0 < 32)]

/-- Settles O16, from the bits of the value returned. -/
theorem statusReadAssemblesFlags : Obligations.StatusReadAssemblesFlags := by
  refine ⟨decode_readWord 0x008#12, fun s => ⟨s.block.status.value, rfl, ?_⟩⟩
  simp only [Status.getLsbD_value]
  refine ⟨by simp, by simp, by simp, by simp, by simp, fun n h0 h1 h2 h3 h7 => ?_⟩
  simp [h0, h1, h2, h3, h7]

/-- Settles O27: each write stores the whole value, and the read returns what is stored. -/
theorem writtenRegistersReadBack : Obligations.WrittenRegistersReadBack :=
  fun _ _ => ⟨⟨_, rfl, rfl⟩, ⟨_, rfl, rfl⟩, ⟨_, rfl, rfl⟩⟩

end Sys2Proof.Machine
end

section
/-! What the register reads return (40_register_read.md R90, R91, R93, R94), and which operations write an element of
the controller or return a value (R96; 41_register_write.md R106). -/

namespace Sys2Proof.Machine

/-! The raw registers -/

/-- The raw `cs_control` after reset, by the open parameter (92_eei_decisions.md D10). -/
theorem Block.resetWith_csControl (p : ResetCsctrl) (b : Block) :
    (b.resetWith p).csControl = if p = .zero then 0x00000000#32 else b.csControl := by
  cases p <;> rfl

/-- Settles O14, from the words of offsets 0x000 and 0x004 and from what reset leaves in the two registers. -/
theorem controlReadsReturnRawRegister : Obligations.ControlReadsReturnRawRegister := by
  refine ⟨fun d => ⟨decode_readWord 0x000#12 d, decode_readWord 0x004#12 d⟩, fun s => ⟨rfl, rfl⟩, fun s t he => ?_⟩
  rw [complete_eq_next.mp he]
  exact ⟨rfl, rfl⟩

/-- Settles O15, from the word of offset 0x010 and from what reset leaves in `cs_control`. -/
theorem chipSelectReadReturnsRawRegister : Obligations.ChipSelectReadReturnsRawRegister := by
  refine ⟨decode_readWord 0x010#12, fun s => rfl, fun s t he => returnData_eq_next.mpr ?_⟩
  have hraw : t.block.csControl = if Config.pResetCsctrl = .zero then 0x00000000#32 else s.block.csControl := by
    rw [block_of_complete he]
    exact s.block.resetWith_csControl Config.pResetCsctrl
  rw [hraw]
  rfl

/-! The data register -/

/-- Zero extension keeps the byte's number (30_encoding.md R79). -/
theorem toNat_drValue (b : Byte) : (drValue b).toNat = b.toNat :=
  BitVec.toNat_setWidth_of_le (by decide)

/-- Once RXNE, OVR and UDR are acknowledged, TXE is the one interrupt source left. -/
theorem irqFn_acknowledge (cr2 : Word) (st : Status) : irqFn cr2 st.acknowledge = (cr2TxeIe cr2 && st.txe) := by
  simp [irqFn]

/-- Everything a DR read does to the controller (40_register_read.md R93). -/
theorem Block.acknowledge_irqUpdate_eq (b : Block) :
    b.acknowledge.irqUpdate =
      { b with status := b.status.acknowledge, irq := cr2TxeIe b.control2 && b.status.txe } := by
  rw [← irqFn_acknowledge]
  rfl

/-- Settles O17: the value is the byte zero-extended, and the controller is as the acknowledgement leaves it. -/
theorem dataReadReturnsByteAndAcknowledges : Obligations.DataReadReturnsByteAndAcknowledges := by
  refine ⟨decode_readWord 0x00C#12, fun s => ⟨drValue s.block.dataIn, toNat_drValue _, returnData_eq_next.mpr ?_⟩⟩
  rw [State.onBlock, Block.acknowledge_irqUpdate_eq]
  rfl

/-! The writers of the controller -/

/-- What an operation makes of the controller: a DR read, a reset and four of the writes change it, the other
operations leave it alone. -/
theorem exec_block_cases {i : Instr} {s t : State} (he : exec i s = .next t) :
    ((i ≠ .rdDr ∧ i ≠ .reset ∧ (∀ v, i ≠ .wrCr1 v) ∧ (∀ v, i ≠ .wrCr2 v) ∧ (∀ v, i ≠ .wrDr v) ∧ ∀ v, i ≠ .wrCscr v) ∧
      t.block = s.block) ∨
    (i = .rdDr ∧ t.block = s.block.acknowledge.irqUpdate) ∨
    (i = .reset ∧ t.block = s.block.resetWith Config.pResetCsctrl) ∨
    (∃ v, i = .wrCr1 v ∧ t.block = s.block.storeCr1 v) ∨
    (∃ v, i = .wrCr2 v ∧ t.block = (s.block.storeCr2 v).irqUpdate) ∨
    (∃ v, i = .wrCscr v ∧ t.block = (s.block.storeCscr v).csUpdate) ∨
    (∃ v, i = .wrDr v ∧ s.block.permitted = false ∧ t.block = s.block.queueByte v) ∨
    ∃ v, i = .wrDr v ∧ s.block.permitted = true ∧ t.block = (s.block.queueByte v).transfer s.answer := by
  cases i with
  | rdCr1 | rdCr2 | rdSr | rdCscr | rdInvalid off =>
    exact .inl ⟨⟨nofun, nofun, nofun, nofun, nofun, nofun⟩, (block_of_returnData he :)⟩
  | wrSr v | wrInvalid off v => exact .inl ⟨⟨nofun, nofun, nofun, nofun, nofun, nofun⟩, (block_of_complete he :)⟩
  | rdDr => exact .inr (.inl ⟨rfl, block_of_returnData he⟩)
  | reset => exact .inr (.inr (.inl ⟨rfl, block_of_complete he⟩))
  | wrCr1 v => exact .inr (.inr (.inr (.inl ⟨v, rfl, block_of_complete he⟩)))
  | wrCr2 v => exact .inr (.inr (.inr (.inr (.inl ⟨v, rfl, block_of_complete he⟩))))
  | wrCscr v => exact .inr (.inr (.inr (.inr (.inr (.inl ⟨v, rfl, block_of_complete he⟩)))))
  | wrDr v =>
    refine .inr (.inr (.inr (.inr (.inr (.inr ?_)))))
    exact (execWrDr_block_cases he).imp (fun h => ⟨v, rfl, h⟩) (fun h => ⟨v, rfl, h⟩)

/-! The value an operation returns -/

/-- A completed read returns its value. -/
theorem rdata_of_returnData {v : Word} {s t : State} (h : returnData v s = .next t) : t.rdata = some v := by
  rw [returnData_eq_next.mp h]

/-- A completed write or reset returns nothing. -/
theorem rdata_of_complete {s t : State} (h : complete s = .next t) : t.rdata = none := by
  rw [complete_eq_next.mp h]

/-- The five register reads and RD_INVALID return a value, the other operations none. -/
theorem exec_rdata_ne_none_iff {i : Instr} {s t : State} (he : exec i s = .next t) :
    t.rdata ≠ none ↔
      i = .rdCr1 ∨ i = .rdCr2 ∨ i = .rdSr ∨ i = .rdDr ∨ i = .rdCscr ∨ ∃ off, i = .rdInvalid off := by
  cases i with
  | rdCr1 | rdCr2 | rdSr | rdDr | rdCscr | rdInvalid off => simp [rdata_of_returnData he]
  | wrCr1 v | wrCr2 v | wrSr v | wrDr v | wrCscr v | wrInvalid off v | reset => simp [rdata_of_complete he]

/-- Settles O33, from the cases of what an operation makes of the controller: each update leaves the elements it does
not name as they were. -/
theorem onlyNamedOperationsWriteAnElement : Obligations.OnlyNamedOperationsWriteAnElement := by
  intro i s t he
  simp only [exec_rdata_ne_none_iff he, and_true]
  obtain ⟨-, hb⟩ | ⟨rfl, hb⟩ | ⟨rfl, hb⟩ | ⟨v, rfl, hb⟩ | ⟨v, rfl, hb⟩ | ⟨v, rfl, hb⟩ | ⟨v, rfl, -, hb⟩ |
    ⟨v, rfl, hp, hb⟩ := exec_block_cases he
  · simp [hb]
  · simp [hb]
  · simp [hb, Block.resetWith_eq]
  · simp [hb]
  · simp [hb]
  · simp [hb]
  · simp [hb]
  · simp [hb, Block.transfer_eq, exchangedBy_wrDr, hp]

end Sys2Proof.Machine
end

section
/-! What the register writes do (41_register_write.md R100 to R104), and the transfer that a permitted DR write runs
(42_transfer.md R112, R117). -/

namespace Sys2Proof.Machine

/-- A 4-byte write word decodes by its offset and carries its WDATA as the value (30_encoding.md R71, R73). -/
theorem decode_writeWord (off : Offset) (v : Word) :
    decode ((BitVec.ofBool true ++ 4#4 ++ off : BitVec 17) ++ v) = .ok (writeOp off v (regAt off)) :=
  (decode_toAw { dir := .write, size := 4#4, off := off, wdata := v }).trans (decodeRequest_write off v)

/-! The control registers, the status register and the chip-selects -/

/-- Settles O20, from the word of offset 0x000: the operation is the store alone. -/
theorem control1WriteStoresAndDecodes : Obligations.Control1WriteStoresAndDecodes :=
  fun v => ⟨decode_writeWord 0x000#12 v, fun _ => complete_eq_next.mpr rfl⟩

/-- Settles O21, from the word of offset 0x004: the store leaves the flags, and the encoder reads the new enables. -/
theorem control2WriteStoresAndRederives : Obligations.Control2WriteStoresAndRederives :=
  fun v => ⟨decode_writeWord 0x004#12 v, fun _ => complete_eq_next.mpr rfl⟩

/-- Settles O22, from the word of offset 0x008: the operation only completes. -/
theorem statusWriteIsNoOp : Obligations.StatusWriteIsNoOp :=
  fun v => ⟨decode_writeWord 0x008#12 v, fun _ => complete_eq_next.mpr rfl⟩

/-- Settles O26, from the word of offset 0x010: the mapper reads the four flags just decoded. -/
theorem chipSelectWriteStoresDecodesAndDrives : Obligations.ChipSelectWriteStoresDecodesAndDrives :=
  fun v => ⟨decode_writeWord 0x010#12 v, fun _ => complete_eq_next.mpr rfl⟩

/-! The data register -/

/-- The byte sent is the value's lowest eight bits (30_encoding.md R77). -/
theorem drByte_eq_ofNat (v : Word) : drByte v = BitVec.ofNat 8 v.toNat := rfl

/-- The answer is the oldest settled one (log entry 3). -/
theorem State.answer_of_xchgScript_cons {s : State} {x : Byte} {xs : List Byte} (h : s.xchgScript = x :: xs) :
    s.answer = x := by
  simp only [State.answer, h]

/-- With no settled answer, the answer is the free byte of this exchange (92_eei_decisions.md D13). -/
theorem State.answer_of_xchgScript_nil {s : State} (h : s.xchgScript = []) : s.answer = Config.xchg s.xchgCount := by
  simp only [State.answer, h]

/-- At the end of a transfer TXE and RXNE are both pending, so each of their enables alone asserts the line. -/
theorem irqFn_of_txe_rxne (cr2 : Word) {st : Status} (ht : st.txe = true) (hr : st.rxne = true) :
    irqFn cr2 st = (cr2TxeIe cr2 || cr2RxneIe cr2 || (cr2ErrIe cr2 && (st.udr || st.ovr))) := by
  simp only [irqFn, ht, hr, Bool.and_true]

/-- Settles O23, by the permission predicate: a denied write only queues the byte, a permitted one performs the transfer
of it. -/
theorem dataWriteStoresByteAndTransfersIfPermitted : Obligations.DataWriteStoresByteAndTransfersIfPermitted := by
  refine fun v => ⟨decode_writeWord 0x00C#12 v, fun s => ⟨fun hp => ?_, fun hp => ?_⟩⟩
  · exact (execWrDr_denied hp).trans (complete_eq_next.mpr rfl)
  · refine ⟨s.answer, fun x xs => State.answer_of_xchgScript_cons, State.answer_of_xchgScript_nil, ?_⟩
    refine (execWrDr_permitted hp).trans (complete_eq_next.mpr ?_)
    rw [State.transfer_eq, State.onBlock_block, Block.transfer_eq, irqFn_of_txe_rxne _ rfl rfl]
    rfl

end Sys2Proof.Machine
end

section
/-! The consequences of the transfer protocol (42_transfer.md section 2): what a permitted DR write makes of the value SR
reads (R116), how long an overrun stays (R114), and which chip-select line is asserted meanwhile (R118). -/

namespace Sys2Proof.Machine

/-! A permitted DR write, through what it leaves in the controller -/

/-- A permitted DR write answers, with the transfer of the queued byte performed (42_transfer.md R112). -/
theorem exec_wrDr_of_permitted (v : Word) {s : State} (h : s.block.permitted = true) :
    ∃ t, exec (.wrDr v) s = .next t ∧ t.block = (s.block.queueByte v).transfer s.answer :=
  ⟨_, execWrDr_permitted h, rfl⟩

@[simp] theorem Block.transfer_status (rx : Byte) (b : Block) :
    (b.transfer rx).status = b.status.startTransfer.noteOverrun.endTransfer := rfl
@[simp] theorem Block.transfer_dataIn (rx : Byte) (b : Block) : (b.transfer rx).dataIn = rx := rfl
@[simp] theorem Block.transfer_csN0 (rx : Byte) (b : Block) : (b.transfer rx).csN0 = b.csN0 := rfl
@[simp] theorem Block.transfer_csN1 (rx : Byte) (b : Block) : (b.transfer rx).csN1 = b.csN1 := rfl

/-! The value SR reads after a transfer -/

/-- No flag is lost in the value that SR reads: each is a bit of its own (30_encoding.md R78). -/
theorem Status.value_inj {st su : Status} : st.value = su.value ↔ st = su := by
  refine ⟨fun h => ?_, congrArg Status.value⟩
  have hbit (k : Nat) : st.value.getLsbD k = su.value.getLsbD k := by rw [h]
  simp only [Status.getLsbD_value] at hbit
  obtain ⟨rxne, txe, udr, ovr, bsy⟩ := st
  rw [Status.mk.injEq]
  exact ⟨by simpa using hbit 0, by simpa using hbit 1, by simpa using hbit 2, by simpa using hbit 3,
    by simpa using hbit 7⟩

/-- The value SR reads before a transfer determines the value it reads after. -/
theorem Status.transfer_value_congr {st su : Status} (h : st.value = su.value) :
    st.startTransfer.noteOverrun.endTransfer.value = su.startTransfer.noteOverrun.endTransfer.value := by
  rw [Status.value_inj.mp h]

/-- Settles O24: each row is computed at the flags that read as its value. -/
theorem transferNetEffectOnStatusValue : Obligations.TransferNetEffectOnStatusValue := by
  intro v s hp
  obtain ⟨t, ht, hb⟩ := exec_wrDr_of_permitted v hp
  refine ⟨t, ht, ?_⟩
  rw [hb, Block.transfer_status, Block.queueByte_status]
  exact ⟨Status.transfer_value_congr (su := Status.txeOnly),
    Status.transfer_value_congr (su := { Status.txeOnly with rxne := true }),
    Status.transfer_value_congr (su := { Status.txeOnly with rxne := true, ovr := true })⟩

/-! Overrun -/

/-- OVR stays through every operation but a DR read and a reset: a transfer can only set it. -/
theorem exec_keeps_ovr {i : Instr} {s t : State} (hd : i ≠ .rdDr) (hr : i ≠ .reset) (h : s.block.status.ovr = true)
    (he : exec i s = .next t) : t.block.status.ovr = true := by
  obtain ⟨-, -, -, hst⟩ | ⟨hi, -⟩ | ⟨hi, -⟩ | ⟨-, -, -, hst⟩ := exec_status_cases he
  · simp [hst, h]
  · exact absurd hi hd
  · exact absurd hi hr
  · rw [hst, h]

/-- What each of some operations keeps, they keep one after another. -/
theorem execAll_keeps {P : State → Prop} {is : List Instr} {s : State}
    (hstep : ∀ i ∈ is, ∀ {s t : State}, P s → exec i s = .next t → P t) (hs : P s) :
    ∃ t, execAll is s = .next t ∧ P t := by
  induction is generalizing s with
  | nil => exact ⟨s, rfl, hs⟩
  | cons i is ih =>
    obtain ⟨u, hu⟩ := exec_answers i s
    obtain ⟨t, ht, hPt⟩ := ih (fun j hj => hstep j (.tail i hj)) (hstep i (.head is) hs hu)
    exact ⟨t, (execAll_cons_of_next hu is).trans ht, hPt⟩

/-- Settles O25: a transfer notes RXNE as OVR, each operation but a DR read and a reset keeps OVR, and those two clear
it. -/
theorem overrunStaysUntilDataReadOrReset : Obligations.OverrunStaysUntilDataReadOrReset := by
  refine ⟨fun v s hp hr => ?_, fun is s his h => ?_, fun s => ⟨_, rfl, rfl⟩, fun s => ⟨_, rfl, rfl⟩⟩
  · obtain ⟨t, ht, hb⟩ := exec_wrDr_of_permitted v hp
    exact ⟨t, ht, by simp [hb, hr], by simp [hb]⟩
  · refine execAll_keeps (P := fun s => s.block.status.ovr = true) (fun i hi _ _ => ?_) h
    obtain ⟨hd, hr⟩ := his i hi
    exact exec_keeps_ovr hd hr

/-! The chip-select lines -/

/-- Where a transfer is permitted, one chip-select is selected and the other is not (42_transfer.md R110, R111). -/
theorem Block.sel_of_permitted {b : Block} (h : b.permitted = true) :
    (b.sel0 = true ∧ b.sel1 = false) ∨ (b.sel0 = false ∧ b.sel1 = true) := by
  have hx : (b.sel0 ^^ b.sel1) = true := (Bool.and_eq_true_iff.mp h).2
  cases h0 : b.sel0 with
  | true => exact .inl ⟨rfl, by simpa [h0] using hx⟩
  | false => exact .inr ⟨rfl, by simpa [h0] using hx⟩

/-- Settles O44: the invariant makes each line's level the complement of its selection, exactly one line is selected,
and a transfer drives neither. -/
theorem transferHasExactlyOneLineAsserted : Obligations.TransferHasExactlyOneLineAsserted := by
  intro v s hinv hp
  obtain ⟨t, ht, hb⟩ := exec_wrDr_of_permitted v hp
  have hn0 : s.block.csN0 = !s.block.sel0 := hinv.csN0
  have hn1 : s.block.csN1 = !s.block.sel1 := hinv.csN1
  refine ⟨t, ht, by simp [hb], by simp [hb], ?_⟩
  obtain ⟨h0, h1⟩ | ⟨h0, h1⟩ := Block.sel_of_permitted hp
  · exact .inl ⟨by simp [hn0, h0], by simp [hn1, h1], Bool.and_eq_true_iff.mp h0⟩
  · exact .inr ⟨by simp [hn0, h0], by simp [hn1, h1], Bool.and_eq_true_iff.mp h1⟩

end Sys2Proof.Machine
end

section
/-! Where the output lines are driven (43_outputs.md R125 to R127, R129, R131): an operation drives a line by the update
it ends with, and one without that update leaves the line and all that its function reads alone. -/

namespace Sys2Proof.Machine

/-! The interrupt line -/

/-- A controller that the interrupt encoder has just updated has the encoder's value of its own registers. -/
theorem Block.irq_of_eq_irqUpdate {b c : Block} (h : b = c.irqUpdate) :
    b.irq = ((b.control2.getLsbD 7 && b.status.txe) || (b.control2.getLsbD 6 && b.status.rxne) ||
      (b.control2.getLsbD 5 && (b.status.udr || b.status.ovr))) := by
  rw [h]
  rfl

/-- Only a DR write can exchange a byte (20_memory.md R64). -/
theorem exchangedBy_of_ne_wrDr {i : Instr} (h : ∀ v, i ≠ .wrDr v) (b : Block) : exchangedBy i b = [] := by
  cases i with
  | wrDr v => exact absurd rfl (h v)
  | _ => rfl

/-- Settles O29, from the cases of what an operation makes of the controller: the four named operations end with the
interrupt update, and the others change neither the line nor what the encoder reads. -/
theorem interruptLineIsDrivenAtItsPoints : Obligations.InterruptLineIsDrivenAtItsPoints := by
  intro i s t he
  obtain ⟨⟨hd, hr, -, h2, hw, -⟩, hb⟩ | ⟨rfl, hb⟩ | ⟨rfl, hb⟩ | ⟨v, rfl, hb⟩ | ⟨v, rfl, hb⟩ | ⟨v, rfl, hb⟩ |
    ⟨v, rfl, hp, hb⟩ | ⟨v, rfl, hp, hb⟩ := exec_block_cases he
  · simp [hd, hr, h2, exchangedBy_of_ne_wrDr hw, hb]
  · exact ⟨fun _ => Block.irq_of_eq_irqUpdate hb, fun _ _ hd => absurd rfl hd⟩
  · exact ⟨fun _ => Block.irq_of_eq_irqUpdate hb, fun _ _ _ hr => absurd rfl hr⟩
  · simp [exchangedBy, hb]
  · exact ⟨fun _ => Block.irq_of_eq_irqUpdate hb, fun h2 => absurd rfl (h2 v)⟩
  · simp [exchangedBy, hb]
  · simp [exchangedBy_wrDr, hp, hb]
  · have hx : exchangedBy (.wrDr v) s.block ≠ [] := by simp [exchangedBy_wrDr, hp]
    exact ⟨fun _ => Block.irq_of_eq_irqUpdate hb, fun _ h => absurd h hx⟩

/-- Where TXE is set and UDR clear, the encoder reduces to TXEIE, RXNEIE with RXNE, ERRIE with OVR (43_outputs.md
R133). -/
theorem Block.Inv.irq_reduced {b : Block} (h : b.Inv) :
    b.irq = (b.control2.getLsbD 7 || (b.control2.getLsbD 6 && b.status.rxne) ||
      (b.control2.getLsbD 5 && b.status.ovr)) := by
  rw [h.irq, h.txe, h.udr, Bool.and_true, Bool.false_or]

/-- Settles O42: every reachable state meets the invariant, under which the encoder reduces. -/
theorem reachableInterruptReduces : Obligations.ReachableInterruptReduces :=
  fun s hs => (everyReachableStateMeetsInvariant s hs).irq_reduced

/-! The chip-select lines -/

/-- Settles O30, from the cases of what an operation makes of the controller: a CSCR write and reset run the mapper on
the flags they leave, and the other operations change neither a line nor a chip-select flag. -/
theorem chipSelectLinesAreDrivenAtTheirPoints : Obligations.ChipSelectLinesAreDrivenAtTheirPoints := by
  intro i s t he
  obtain ⟨⟨-, hr, -, -, -, hc⟩, hb⟩ | ⟨rfl, hb⟩ | ⟨rfl, hb⟩ | ⟨v, rfl, hb⟩ | ⟨v, rfl, hb⟩ | ⟨v, rfl, hb⟩ |
    ⟨v, rfl, -, hb⟩ | ⟨v, rfl, -, hb⟩ := exec_block_cases he
  · simp [hr, hc, hb]
  · simp [hb]
  · have hinv := s.block.inv_resetWith
    rw [hb]
    exact ⟨fun _ => ⟨hinv.csN0, hinv.csN1⟩, fun _ hr => absurd rfl hr⟩
  · simp [hb]
  · simp [hb]
  · rw [hb]
    exact ⟨fun _ => ⟨rfl, rfl⟩, fun hc => absurd rfl (hc v)⟩
  · simp [hb]
  · simp [hb, Block.transfer_eq]

end Sys2Proof.Machine
end

section
/-! How accesses complete (60_exceptions.md): runs never stop over served events (R140), and what the operations report
to the diagnostic sink (R141, R142, R156). -/

namespace Sys2Proof.Machine

/-! Runs over served events -/

/-- A step that answers takes the oldest event, if there is one, off the port and leaves the others as they wait. -/
theorem inbox_of_step {s t : State} (h : step s = .next t) : t.inbox = s.inbox.tail := by
  obtain ⟨hq, rfl⟩ | ⟨p, rest, hq, -, rfl⟩ | ⟨e, rest, i, hq, -, -, he⟩ := step_cases h
  · rw [hq, List.tail_nil]
  · rw [hq, List.tail_cons]
  · rw [inbox_of_exec he, hq, List.tail_cons]

/-- A step answers from every state whose waiting events are all served: at the oldest of them, or idle where none
waits (log entry 4). -/
theorem step_answers_of_served {s : State} (h : ∀ e ∈ s.inbox, Served e) : ∃ t, step s = .next t := by
  cases hq : s.inbox with
  | nil => exact ⟨s, stepWithNothingPresentedIsIdle s hq⟩
  | cons e rest => exact (stepAnswersExactlyServedEvents s e rest hq).mpr (h e (by simp [hq]))

/-- A step leaves only served events waiting where all that waited were served. -/
theorem step_keeps_served {s t : State} (h : ∀ e ∈ s.inbox, Served e) (hs : step s = .next t) :
    ∀ e ∈ t.inbox, Served e := by
  rw [inbox_of_step hs]
  exact fun e he => h e (List.mem_of_mem_tail he)

/-- Settles O12, by induction on the length of the run: the first step answers, and the events it leaves are served. -/
theorem runOverServedEventsNeverStops : Obligations.RunOverServedEventsNeverStops := by
  intro n
  induction n with
  | zero => exact fun s _ => ⟨s, rfl⟩
  | succ n ih =>
    intro s h
    obtain ⟨t, ht⟩ := step_answers_of_served h
    rw [run_succ_of_next core ht]
    exact ih t (step_keeps_served h ht)

/-! Reports to the diagnostic sink -/

/-- Returning a value to the requester reports nothing. -/
theorem diag_of_returnData {v : Word} {s t : State} (h : returnData v s = .next t) : t.diag = s.diag := by
  rw [returnData_eq_next.mp h]

/-- Completing without a value reports nothing. -/
theorem diag_of_complete {s t : State} (h : complete s = .next t) : t.diag = s.diag := by
  rw [complete_eq_next.mp h]

/-- A transfer reports nothing. -/
@[simp] theorem State.transfer_diag (s : State) : s.transfer.diag = s.diag := rfl

/-- A DR write reports nothing, whether its transfer is permitted or not. -/
theorem execWrDr_diag {v : Word} {s t : State} (he : execWrDr v s = .next t) : t.diag = s.diag := by
  cases hp : s.block.permitted with
  | false =>
    rw [execWrDr_denied hp] at he
    rw [diag_of_complete he, State.onBlock_diag]
  | true =>
    rw [execWrDr_permitted hp] at he
    rw [diag_of_complete he, State.transfer_diag, State.onBlock_diag]

/-- Settles O32, by the operations: the two invalid-address accesses complete the report, the others complete without
one. -/
theorem reportsAreTheInvalidAccesses : Obligations.ReportsAreTheInvalidAccesses := by
  intro i s t he
  cases i with
  | rdCr1 | rdCr2 | rdSr | rdDr | rdCscr | rdInvalid off => simp [diag_of_returnData he]
  | wrCr1 v | wrCr2 v | wrSr v | wrCscr v | wrInvalid off v | reset => simp [diag_of_complete he]
  | wrDr v => simp [execWrDr_diag he]

/-- Settles O18: the register map has no register at the offset, so the words decode to the invalid-address accesses,
which complete from the state with the report. -/
theorem invalidAccessesOnlyReport : Obligations.InvalidAccessesOnlyReport := by
  intro off h0 h4 h8 hC h10
  have hreg : regAt off = none := regAt_of_invalid ((invalidOffset_iff off).mpr ⟨h0, h4, h8, hC, h10⟩)
  refine ⟨fun d => ⟨(decode_readWord off d).trans ?_, (decode_writeWord off d).trans ?_⟩,
    fun _ => returnData_eq_next.mpr rfl, fun _ _ => complete_eq_next.mpr rfl⟩
  · rw [hreg, readOp]
  · rw [hreg, writeOp]

end Sys2Proof.Machine
end

section
/-! Reset (70_reset_and_hazards.md section 1): what RESET makes of a state (R160, R161), what is seen right after it
(R163), and how little it keeps of the state before (R165). -/

namespace Sys2Proof.Machine

/-- RESET answers with the controller reset and nothing returned; the interfaces stay as they were. -/
theorem exec_reset_eq_next (s : State) :
    exec .reset s = .next { s with rdata := none, block := s.block.resetWith Config.pResetCsctrl } :=
  complete_eq_next.mpr rfl

/-- Reset leaves the controller of the start state but for `data_out`, which it keeps (92_eei_decisions.md D11), and the
raw `cs_control`, which it clears or keeps (D10). -/
theorem Block.resetWith_eq_ite (p : ResetCsctrl) (b : Block) :
    b.resetWith p =
      { Block.reset with dataOut := b.dataOut, csControl := if p = .zero then 0x00000000#32 else b.csControl } := by
  rw [← Block.resetWith_csControl, Block.resetWith_eq]

/-- The controller of the start state is one that reset leaves as it is, under both values of the open parameter. -/
theorem Block.resetWith_reset (p : ResetCsctrl) : Block.reset.resetWith p = Block.reset := by
  cases p <;> rfl

/-- Reset leaves TXE as the only flag. -/
@[simp] theorem Block.resetWith_status (p : ResetCsctrl) (b : Block) : (b.resetWith p).status = Status.txeOnly := rfl

/-- Where TXE is the only flag, SR reads 0x02 (30_encoding.md R78). -/
theorem exec_rdSr_of_txeOnly {s : State} (h : s.block.status = Status.txeOnly) :
    exec .rdSr s = .next { s with rdata := some 0x00000002#32 } :=
  returnData_eq_next.mpr (by rw [h, Status.txeOnly_value])

/-- Settles O37: the two elements that reset may keep are the only ones in which its results differ. -/
theorem resetForgetsTheStateBefore : Obligations.ResetForgetsTheStateBefore := by
  intro s₁ s₂
  refine ⟨_, _, exec_reset_eq_next s₁, exec_reset_eq_next s₂, ?_⟩
  rw [Block.resetWith_eq_ite, Block.resetWith_eq_ite]
  exact ⟨rfl, rfl, rfl, rfl, rfl⟩

/-- Settles O35: the values are those of the start state with the two elements that reset may keep. -/
theorem resetSetsEveryElement : Obligations.ResetSetsEveryElement := by
  refine ⟨fun s => ?_, rfl, rfl, ?_⟩
  · rw [exec_reset_eq_next, Block.resetWith_eq_ite]
    rfl
  · rw [exec_reset_eq_next, State.reset, Block.resetWith_reset]

/-- Settles O36: TXE is the only flag that reset leaves, and each line has its level of the start state. -/
theorem afterResetTxeOnlyAndLinesDeasserted : Obligations.AfterResetTxeOnlyAndLinesDeasserted := by
  refine fun s => ⟨_, exec_reset_eq_next s, exec_rdSr_of_txeOnly (Block.resetWith_status _ _), ?_⟩
  rw [Block.resetWith_eq]
  exact ⟨rfl, rfl, rfl⟩

/-- Settles O38: it is the base case of the invariant. -/
theorem resetStateMeetsInvariant : Obligations.ResetStateMeetsInvariant := Block.inv_reset

end Sys2Proof.Machine
end
